-- ==== Sys2Proof/Word.lean ====
section
/-! DEFINITION. The word types of EPDL-CORE: bytes, op words and the coordinates' words (00_scope.md R12). -/

namespace Sys2Proof

/-- `u8`: a byte on the wire, a buffer byte, a register number. -/
abbrev Byte := BitVec 8

/-- `u64`: a host operation word (30_encoding.md R100). -/
abbrev OpWord := BitVec 64

/-- `u32`: a response word, a register of the register view, a clock rate. -/
abbrev Word := BitVec 32

/-- `u16`: a colour operand; as two's complement, a pixel coordinate (R106). -/
abbrev Half := BitVec 16

end Sys2Proof
end

