-- ==== Sys2Proof/Syntax.lean ====
section
/-! DEFINITION. The instruction set of EPDL-CORE (00_scope.md R4): the 22 host operations of `EPDL-OPS v1` and the nine
wire command bytes, one constructor per row of the opcode table, and the words that carry them. -/

namespace Sys2Proof

/-- One constructor per row of the opcode table (30_encoding.md R112 and R117). Operands are the bit fields of the word
taken as they are (R111); coordinates are read as signed 16-bit integers where they are used (R106). -/
inductive Instr where
  /-- `BUS_RESET` (R152) -/
  | busReset
  /-- `BUS_INIT f` (R151): `f` is the serial clock rate in hertz -/
  | busInit (f : Word)
  /-- `TXN_START` (R153) -/
  | txnStart
  /-- `TXN_END` (R154) -/
  | txnEnd
  /-- `WCMD b` (R155) -/
  | wcmd (b : Byte)
  /-- `WDATA b` (R156) -/
  | wdata (b : Byte)
  /-- `WCMD_T b` (R157) -/
  | wcmdT (b : Byte)
  /-- `WDATA_T b` (R158) -/
  | wdataT (b : Byte)
  /-- `INIT` without a snapshot, `r = 0` (R221) -/
  | init
  /-- `INIT s`, `r = 1`: `s` is a snapshot in the `STATE` layout (R53, R105, R221) -/
  | initS (s : Word)
  /-- `ENTER_FULL` (R223) -/
  | enterFull
  /-- `ENTER_PARTIAL` (R225) -/
  | enterPartial
  /-- `DRAW_PIXEL x, y, c` (R264) -/
  | drawPixel (x y c : Half)
  /-- `FILL c` (R265) -/
  | fill (c : Half)
  /-- `UPDATE` (R227) -/
  | update
  /-- `UPDATE_PF` (R228) -/
  | updatePf
  /-- `IS_BUSY` (R229) -/
  | isBusy
  /-- `WAIT_BUSY` (R230) -/
  | waitBusy
  /-- `SET_ROTATION r` (R260) -/
  | setRotation (r : Byte)
  /-- `GET_PIXEL x, y` (R266) -/
  | getPixel (x y : Half)
  /-- `READ_REG n` (R280) -/
  | readReg (n : Byte)
  /-- `CLEAR_STATUS m` (R281) -/
  | clearStatus (m : BitVec 12)
  /-- wire command `0x20`, activation (R117) -/
  | wireActivation
  /-- wire command `0x22`, update-control (R117) -/
  | wireUpdateControl
  /-- wire command `0x24`, pixel-data (R117) -/
  | wirePixelData
  /-- wire command `0x32`, write-LUT (R117) -/
  | wireWriteLut
  /-- wire command `0x44`, set-RAM-X (R117) -/
  | wireSetRamX
  /-- wire command `0x45`, set-RAM-Y (R117) -/
  | wireSetRamY
  /-- wire command `0x4E`, set-RAM-X-counter (R117) -/
  | wireSetRamXCounter
  /-- wire command `0x4F`, set-RAM-Y-counter (R117) -/
  | wireSetRamYCounter
  /-- wire command `0xFF`, no-op terminator (R117) -/
  | wireNopTerminator
deriving DecidableEq, Repr

/-- The words of the two layers (R4): a host op word (R100), or a command byte of the wire layer (R116). -/
inductive CodeWord where
  | op (w : OpWord)
  | wire (b : Byte)
deriving DecidableEq, Repr

/-- Whether an instruction is a host operation (as against a command byte of the wire layer). -/
def Instr.isHostOp : Instr → Bool
  | .busReset | .busInit _ | .txnStart | .txnEnd | .wcmd _ | .wdata _ | .wcmdT _ | .wdataT _ => true
  | .init | .initS _ | .enterFull | .enterPartial | .drawPixel _ _ _ | .fill _ | .update | .updatePf => true
  | .isBusy | .waitBusy | .setRotation _ | .getPixel _ _ | .readReg _ | .clearStatus _ => true
  | .wireActivation | .wireUpdateControl | .wirePixelData | .wireWriteLut | .wireSetRamX => false
  | .wireSetRamY | .wireSetRamXCounter | .wireSetRamYCounter | .wireNopTerminator => false

end Sys2Proof
end

