-- ==== Sys2Proof/WellFormed.lean ====
section
/-! DEFINITION. Which instruction terms an encoding admits. Every operand is a bit field of fixed width (30_encoding.md
R111), so the types say all but one thing: the reserved bits of a restore snapshot are 0 (R101, R105). Ranges that the
operations check at execution (`f = 0`, `r >= 4`, `n >= 7`, coordinates) are no matter of form (R111). -/

namespace Sys2Proof

/-- The reserved bits `s[7:3]` of a snapshot are 0 (R53, R105). -/
def snapshotLowReservedClear (s : Word) : Bool := s.extractLsb' 3 5 == 0#5

/-- The reserved bits `s[31:16]` of a snapshot are 0 (R53, R105). -/
def snapshotHighReservedClear (s : Word) : Bool := s.extractLsb' 16 16 == 0#16

/-- The instructions that some legal op word or wire byte encodes. -/
def Instr.wellFormed : Instr → Bool
  | .initS s => snapshotLowReservedClear s && snapshotHighReservedClear s
  | .busReset | .busInit _ | .txnStart | .txnEnd | .wcmd _ | .wdata _ | .wcmdT _ | .wdataT _ => true
  | .init | .enterFull | .enterPartial | .drawPixel _ _ _ | .fill _ | .update | .updatePf => true
  | .isBusy | .waitBusy | .setRotation _ | .getPixel _ _ | .readReg _ | .clearStatus _ => true
  | .wireActivation | .wireUpdateControl | .wirePixelData | .wireWriteLut | .wireSetRamX => true
  | .wireSetRamY | .wireSetRamXCounter | .wireSetRamYCounter | .wireNopTerminator => true

end Sys2Proof
end

