-- ==== Sys2Proof/Decode.lean ====
section
/-! DEFINITION. The decoder and the encoder of the two instruction layers (30_encoding.md R100 to R118). The decoder is total
and rejects by name; the encoder is written from the same tables. -/

namespace Sys2Proof

/-- Why a word is no instruction: the two decode checks of R113, in the order of 60_exceptions.md R304, and a wire byte
outside the command set of R117. -/
inductive DecodeError where
  /-- the opcode is assigned to no operation (R112, R114) -/
  | unassignedOpcode (opcode : Byte)
  /-- a bit that the opcode's format does not name is 1 (R101) -/
  | reservedBits (opcode : Byte)
  /-- the byte is no command of the fixed panel command set (R117) -/
  | notWireCommand (b : Byte)
deriving DecidableEq, Repr

/-- Bits `[63:56]`: the opcode (R100). -/
def opcodeOf (w : OpWord) : Byte := w.extractLsb' 56 8

/-- A word whose reserved bits are clear stands for `i`; any other is rejected (R113). -/
def ifReservedClear (w : OpWord) (clear : Bool) (i : Instr) : Except DecodeError Instr :=
  if clear then .ok i else .error (.reservedBits (opcodeOf w))

/-- Format `N`: no operand, `[55:0]` reserved (R102). -/
def formatN (w : OpWord) (i : Instr) : Except DecodeError Instr :=
  ifReservedClear w (w.extractLsb' 0 56 == 0#56) i

/-- Format `B` (and `R`, which has the same layout): one byte in `[7:0]`, `[55:8]` reserved (R103, R109). -/
def formatB (w : OpWord) (k : Byte → Instr) : Except DecodeError Instr :=
  ifReservedClear w (w.extractLsb' 8 48 == 0#48) (k (w.extractLsb' 0 8))

/-- Format `F`: the rate in `[31:0]`, `[55:32]` reserved (R104). -/
def formatF (w : OpWord) (k : Word → Instr) : Except DecodeError Instr :=
  ifReservedClear w (w.extractLsb' 32 24 == 0#24) (k (w.extractLsb' 0 32))

/-- Format `I`: `r` in bit 32 and the snapshot in `[31:0]`; `[55:33]` reserved, all of the snapshot when `r = 0`, and its own
reserved bits when `r = 1` (R101, R105). -/
def formatI (w : OpWord) : Except DecodeError Instr :=
  let s : Word := w.extractLsb' 0 32
  if w.extractLsb' 32 1 == 0#1 then
    ifReservedClear w (w.extractLsb' 33 23 == 0#23 && s == 0#32) .init
  else
    ifReservedClear w (w.extractLsb' 33 23 == 0#23 && (snapshotLowReservedClear s && snapshotHighReservedClear s)) (.initS s)

/-- Format `P`: `x` in `[47:32]`, `y` in `[31:16]`, the colour in `[15:0]`, `[55:48]` reserved (R106). -/
def formatP (w : OpWord) (k : Half → Half → Half → Instr) : Except DecodeError Instr :=
  ifReservedClear w (w.extractLsb' 48 8 == 0#8) (k (w.extractLsb' 32 16) (w.extractLsb' 16 16) (w.extractLsb' 0 16))

/-- Format `Q`: the coordinates of format `P`; `[55:48]` and `[15:0]` reserved (R107). -/
def formatQ (w : OpWord) (k : Half → Half → Instr) : Except DecodeError Instr :=
  ifReservedClear w (w.extractLsb' 48 8 == 0#8 && w.extractLsb' 0 16 == 0#16) (k (w.extractLsb' 32 16) (w.extractLsb' 16 16))

/-- Format `C`: a colour in `[15:0]`, `[55:16]` reserved (R108). -/
def formatC (w : OpWord) (k : Half → Instr) : Except DecodeError Instr :=
  ifReservedClear w (w.extractLsb' 16 40 == 0#40) (k (w.extractLsb' 0 16))

/-- Format `M`: a clear mask in `[11:0]`, `[55:12]` reserved (R110). -/
def formatM (w : OpWord) (k : BitVec 12 → Instr) : Except DecodeError Instr :=
  ifReservedClear w (w.extractLsb' 12 44 == 0#44) (k (w.extractLsb' 0 12))

/-- The opcode map (R112). The opcode check comes before the reserved-bit check (60_exceptions.md R304). -/
def decodeOp (w : OpWord) : Except DecodeError Instr :=
  match (opcodeOf w).toNat with
  | 0x01 => formatN w .busReset
  | 0x02 => formatF w .busInit
  | 0x03 => formatN w .txnStart
  | 0x04 => formatN w .txnEnd
  | 0x05 => formatB w .wcmd
  | 0x06 => formatB w .wdata
  | 0x07 => formatB w .wcmdT
  | 0x08 => formatB w .wdataT
  | 0x10 => formatI w
  | 0x11 => formatN w .enterFull
  | 0x12 => formatN w .enterPartial
  | 0x13 => formatP w .drawPixel
  | 0x14 => formatC w .fill
  | 0x15 => formatN w .update
  | 0x16 => formatN w .updatePf
  | 0x17 => formatN w .isBusy
  | 0x18 => formatN w .waitBusy
  | 0x19 => formatB w .setRotation
  | 0x1A => formatQ w .getPixel
  | 0x1B => formatB w .readReg
  | 0x1C => formatM w .clearStatus
  | _ => .error (.unassignedOpcode (opcodeOf w))

/-- The panel command set (R117). -/
def decodeWire (b : Byte) : Except DecodeError Instr :=
  match b.toNat with
  | 0x20 => .ok .wireActivation
  | 0x22 => .ok .wireUpdateControl
  | 0x24 => .ok .wirePixelData
  | 0x32 => .ok .wireWriteLut
  | 0x44 => .ok .wireSetRamX
  | 0x45 => .ok .wireSetRamY
  | 0x4E => .ok .wireSetRamXCounter
  | 0x4F => .ok .wireSetRamYCounter
  | 0xFF => .ok .wireNopTerminator
  | _ => .error (.notWireCommand b)

/-- The decoder, total on every word of either layer. -/
def decode : CodeWord → Except DecodeError Instr
  | .op w => decodeOp w
  | .wire b => decodeWire b

/-- An op word is its opcode in `[63:56]` and its operand fields in `[55:0]` (R100, R115). -/
def opWord (opcode : Byte) (fields : BitVec 56) : CodeWord := .op (opcode ++ fields)

/-- The word of an instruction (R101, R112, R115, R117). -/
def encode : Instr → CodeWord
  | .busReset => opWord 0x01#8 0#56
  | .busInit f => opWord 0x02#8 (0#24 ++ f)
  | .txnStart => opWord 0x03#8 0#56
  | .txnEnd => opWord 0x04#8 0#56
  | .wcmd b => opWord 0x05#8 (0#48 ++ b)
  | .wdata b => opWord 0x06#8 (0#48 ++ b)
  | .wcmdT b => opWord 0x07#8 (0#48 ++ b)
  | .wdataT b => opWord 0x08#8 (0#48 ++ b)
  | .init => opWord 0x10#8 0#56
  | .initS s => opWord 0x10#8 (1#24 ++ s)
  | .enterFull => opWord 0x11#8 0#56
  | .enterPartial => opWord 0x12#8 0#56
  | .drawPixel x y c => opWord 0x13#8 (0#8 ++ (x ++ (y ++ c)))
  | .fill c => opWord 0x14#8 (0#40 ++ c)
  | .update => opWord 0x15#8 0#56
  | .updatePf => opWord 0x16#8 0#56
  | .isBusy => opWord 0x17#8 0#56
  | .waitBusy => opWord 0x18#8 0#56
  | .setRotation r => opWord 0x19#8 (0#48 ++ r)
  | .getPixel x y => opWord 0x1A#8 (0#8 ++ (x ++ (y ++ 0#16)))
  | .readReg n => opWord 0x1B#8 (0#48 ++ n)
  | .clearStatus m => opWord 0x1C#8 (0#44 ++ m)
  | .wireActivation => .wire 0x20#8
  | .wireUpdateControl => .wire 0x22#8
  | .wirePixelData => .wire 0x24#8
  | .wireWriteLut => .wire 0x32#8
  | .wireSetRamX => .wire 0x44#8
  | .wireSetRamY => .wire 0x45#8
  | .wireSetRamXCounter => .wire 0x4E#8
  | .wireSetRamYCounter => .wire 0x4F#8
  | .wireNopTerminator => .wire 0xFF#8

/-- The word that a row of the opcode table stands for: rows of 8 bits are wire command bytes, rows of more bits are op
words, whose bits above `nbits` are 0. -/
def tableCodeWord (nbits w : Nat) : CodeWord :=
  if nbits ≤ 8 then .wire (BitVec.ofNat 8 w) else .op (BitVec.ofNat 64 (w % 2 ^ nbits))

/-- The instruction that the decoder reads from a row's bits. -/
def decodeTableWord (nbits w : Nat) : Option Instr :=
  match decode (tableCodeWord nbits w) with
  | .ok i => some i
  | .error _ => none

end Sys2Proof
end

