-- ==== Sys2Proof/Config.lean ====
section
/-! DEFINITION. What an instance of the block is elaborated with (00_scope.md R8), as plain data, and the values the spec leaves
open, as constants that have no body: nothing can evaluate them, so a proof holds for every value of them. -/

namespace Sys2Proof

/-- One coordinate map of `ROT_MAP` (R8, 43_pixels.md R262), as data. `flip` is a mirror of the physical axes after the class's
own exchange of axes (the default table is made of these); `table` lists the physical coordinate of every logical one,
row by row of the logical rectangle. Log 3. -/
inductive CoordMap where
  | flip (mirrorX mirrorY : Bool)
  | table (cells : List (Nat × Nat))
deriving DecidableEq, Repr, Inhabited

/-- `ROT_MAP`: one coordinate map per rotation class (R262). -/
structure RotMap where
  class0 : CoordMap
  class1 : CoordMap
  class2 : CoordMap
  class3 : CoordMap
deriving DecidableEq, Repr, Inhabited

/-- `POWER_OFF_CTRL`: the byte 0x03 or 0xC3 (R8, 30_encoding.md R118). -/
inductive PowerOffCtrl where
  | off03
  | combinedC3
deriving DecidableEq, Repr, Inhabited

/-- The configuration parameters of R8 that an instance chooses. A numeric field outside its range of R8 stands for the nearest
value in it (`Machine/Params.lean`, log 2); the parameters to which R8 gives one value are constants there. -/
structure Params where
  /-- `W`, 1..2048 -/
  width : Nat
  /-- `H`, 1..32767 -/
  height : Nat
  /-- `SYNC_MODE`, true = synchronous -/
  syncMode : Bool
  /-- `THRESHOLD`, 1..255 -/
  threshold : Nat
  /-- `POWER_OFF_AFTER_MODE_ENTRY` -/
  powerOffAfterModeEntry : Bool
  /-- `POWER_OFF_AFTER_UPDATE` -/
  powerOffAfterUpdate : Bool
  /-- `POWER_SEQ_WAIT` -/
  powerSeqWait : Bool
  /-- `POWER_OFF_CTRL` -/
  powerOffCtrl : PowerOffCtrl
  /-- `LUT_FULL`, 30 bytes -/
  lutFull : Vector Byte 30
  /-- `LUT_PART`, 30 bytes -/
  lutPart : Vector Byte 30
  /-- `CONFIG_BLOCK`, in sending order -/
  configBlock : List (Byte × List Byte)
  /-- `ROT_MAP` -/
  rotMap : RotMap
  /-- `CLK_HZ` -/
  clkHz : Nat
  /-- `SPI_HZ_DEFAULT`, 1..CLK_HZ/2 -/
  spiHzDefault : Nat
deriving DecidableEq, Repr, Inhabited

/-- The parameters of the instance that `State.reset` describes: OPEN (R8), so nothing is known of them. Log 1. -/
opaque Config.params : Params

/-- The panel's answer to the `n`-th busy sample where the state scripts none: a free draw (60_exceptions.md R322,
93_implementation_defined.md I9). Log 4. -/
opaque Config.busyDraw : Nat → Bool

/-- The level of `BUSY` at the clock edge at which the `n`-th draw moves on to the last synchronizer stage; the first stage takes
it in (10_state.md R47, 41_sequencer.md R198). Log 5. -/
opaque Config.syncStage : Nat → Bool

/-- The level of `BUSY` at the `n`-th clock edge of those that no sample follows (10_state.md R33, R47). Log 5. -/
opaque Config.busyLevel : Nat → Bool

/-- The level of `MOSI` after a byte, until the next one (10_state.md R37, 93_implementation_defined.md I7). Log 6. -/
opaque Config.mosiIdle : Nat → Bool

/-- The byte that the pixel buffer holds at an index after the `epoch`-th block reset (10_state.md R49,
93_implementation_defined.md I1). Log 7. -/
opaque Config.launchByte : (epoch index : Nat) → Byte

end Sys2Proof
end

