-- ==== Sys2Proof/Machine/Params.lean ====
section
/-! DEFINITION. The configuration parameters as the operations read them, and the constants derived from them
(00_scope.md R8, R9, R10; 10_state.md R54). -/

namespace Sys2Proof.Machine

open Sys2Proof

/-- The value of the range `lo .. hi` nearest to `v` (log 2). -/
def clampTo (lo hi v : Nat) : Nat := max lo (min hi v)

/-- `ceil(a / b)` (R12). -/
def ceilDiv (a b : Nat) : Nat := (a + b - 1) / b

/-- `RESET_MS` (R8). -/
def resetMs : Nat := 40

/-- `POLL_MS` (R8). -/
def pollMs : Nat := 5

/-- `MAX_POLLS` (R8). -/
def maxPolls : Nat := 400

/-- `LUT_LEN` (R8). -/
def lutLen : Nat := 30

/-- `Y_ADDR_BYTES` (R8). -/
def yAddrBytes : Nat := 2

/-- `BUSY_SYNC_STAGES` (R8): the stages `sync1` and `sync2` of State. -/
def busySyncStages : Nat := 2

/-- `W` (R8). -/
def paramW (p : Params) : Nat := clampTo 1 2048 p.width

/-- `H` (R8). -/
def paramH (p : Params) : Nat := clampTo 1 32767 p.height

/-- `THRESHOLD` (R8). -/
def paramThreshold (p : Params) : Nat := clampTo 1 255 p.threshold

/-- `CLK_HZ` (R8): at least 2, so that the range `1 .. CLK_HZ/2` of `SPI_HZ_DEFAULT` holds a value. -/
def paramClkHz (p : Params) : Nat := max 2 p.clkHz

/-- `SPI_HZ_DEFAULT` (R8), a `u32` (R38). -/
def paramSpiHzDefault (p : Params) : Word :=
  BitVec.ofNat 32 (clampTo 1 (min (paramClkHz p / 2) (2 ^ 32 - 1)) p.spiHzDefault)

/-- The byte of `POWER_OFF_CTRL` (30_encoding.md R118). -/
def paramPowerOffCtrl (p : Params) : Byte :=
  match p.powerOffCtrl with
  | .off03 => 0x03#8
  | .combinedC3 => 0xC3#8

/-- `XB = ceil(W / 8)`: bytes per physical row (R9). -/
def rowBytes (p : Params) : Nat := ceilDiv (paramW p) 8

/-- `N = XB * H`: bytes in the pixel buffer (R9). -/
def bufBytes (p : Params) : Nat := rowBytes p * paramH p

/-- `XE = XB - 1`: the last X byte address (R9). -/
def lastXByte (p : Params) : Byte := BitVec.ofNat 8 (rowBytes p - 1)

/-- `YE = H - 1`: the last row address (R9). -/
def lastRow (p : Params) : Half := BitVec.ofNat 16 (paramH p - 1)

/-- `LW`: the logical width under rotation class `r` (R9, 43_pixels.md R261). -/
def logicalW (p : Params) (r : BitVec 2) : Nat := if r.getLsbD 0 then paramH p else paramW p

/-- `LH`: the logical height under rotation class `r` (R9, R261). -/
def logicalH (p : Params) (r : BitVec 2) : Nat := if r.getLsbD 0 then paramW p else paramH p

/-- The `CONFIG` register (10_state.md R54). -/
def configRegister (p : Params) : Word :=
  BitVec.ofNat 8 lutLen ++ paramPowerOffCtrl p ++ BitVec.ofNat 8 (paramThreshold p) ++ 0#4 ++ BitVec.ofBool p.powerSeqWait
    ++ BitVec.ofBool p.powerOffAfterUpdate ++ BitVec.ofBool p.powerOffAfterModeEntry ++ BitVec.ofBool p.syncMode

/-- The `GEOMETRY` register (10_state.md R51). -/
def geometryRegister (p : Params) : Word := BitVec.ofNat 16 (paramH p) ++ BitVec.ofNat 16 (paramW p)

end Sys2Proof.Machine
end

