-- ==== Sys2Proof/Machine/State.lean ====
section
/-! DEFINITION. The state of the block as plain data (10_state.md), what the panel port has shown (00_scope.md R15), and what the
agents around the block will do (R30, 60_exceptions.md R320 and R322). -/

namespace Sys2Proof.Machine

open Sys2Proof

/-- The wire events of 00_scope.md R15. `cutByte` is no event of R15: it is what the panel sees of a byte that a block reset
cuts short (70_reset_and_hazards.md R342), its level of `DC` and the bits that were clocked out. -/
inductive Event where
  /-- the serial bus is configured to a rate -/
  | cfg (hz : Word)
  /-- the lines are driven to their idle levels -/
  | idle
  /-- `RST_N` is driven to a level -/
  | rst (v : Bool)
  /-- the block waits a number of milliseconds -/
  | delay (ms : Nat)
  /-- `CS_N` falls; the busy sample taken at that moment -/
  | csOn (b : Bool)
  /-- `CS_N` rises -/
  | csOff
  /-- a byte shifted with `DC = 0` -/
  | cmd (x : Byte)
  /-- a byte shifted with `DC = 1` -/
  | dat (x : Byte)
  /-- a busy sample -/
  | poll (b : Bool)
  /-- the first bits of a byte that block reset cut short -/
  | cutByte (dc : Bool) (bits : List Bool)
deriving DecidableEq, Repr

/-- Where a block reset strikes an operation (R342): after so many of its events, and, if the next event is a byte, after so
many bits of it. -/
structure Cut where
  events : Nat
  bits : Nat
deriving DecidableEq, Repr

/-- What reaches the block from outside, one entry a step (R34, R35, R320). Log 9, 10 and 11. -/
inductive Request where
  /-- a word is presented: an op word on the host port (R34), or a command byte of the wire layer (R116, log 11) -/
  | present (c : CodeWord)
  /-- `rst_n` is pulsed while the sequencer is idle (R340) -/
  | blockReset
  /-- an op word is accepted, and `rst_n` strikes while it executes (R342) -/
  | blockResetDuring (w : OpWord) (cut : Cut)
deriving DecidableEq, Repr

/-- The state. Lines and flags of one bit are Bool (true = 1); registers that the spec lays out in bits are bit vectors. -/
structure State where
  /-- the configuration parameters of 00_scope.md R8; not state (R57), carried here (log 1) -/
  cfg : Params
  /-- `txn_open` (R36) -/
  txnOpen : Bool
  /-- output line register `cs_n` (R37) -/
  csN : Bool
  /-- output line register `dc` (R37) -/
  dc : Bool
  /-- output line register `rst_n` (R37) -/
  rstN : Bool
  /-- output line register `sck` (R37) -/
  sck : Bool
  /-- output line register `mosi` (R37) -/
  mosi : Bool
  /-- `spi_hz` (R38) -/
  spiHz : Word
  /-- `count` (R40) -/
  count : BitVec 8
  /-- `initialized` (R41) -/
  initialized : Bool
  /-- `full_mode` (R42) -/
  fullMode : Bool
  /-- `power_on` (R43) -/
  powerOn : Bool
  /-- `rotation` (R45) -/
  rotation : BitVec 2
  /-- the sticky flags `status[11:0]` (R46, R52) -/
  status : BitVec 12
  /-- first stage of the busy synchronizer (R47) -/
  sync1 : Bool
  /-- last stage of the busy synchronizer, `busy_sync` (R47) -/
  sync2 : Bool
  /-- `busy_last` (R48) -/
  busyLast : Bool
  /-- the pixel buffer (R49): the bytes written since block reset -/
  buf : List Host.Cell
  /-- the latched op word of the sequencer's micro-state; none when idle (R32, R50) -/
  latched : Option OpWord
  /-- how many wire events the running operation has emitted: its position (R32, log 8) -/
  position : Nat
  /-- the loop counter of a running busy wait (R32) -/
  loopCtr : Nat
  /-- per-operation flag `op_timeout` (00_scope.md R14) -/
  opTimeout : Bool
  /-- per-operation flag `op_done` (R14) -/
  opDone : Bool
  /-- per-operation flag `forced` (42_engine.md R228) -/
  forced : Bool
  /-- `op_ready` (R34) -/
  opReady : Bool
  /-- `rsp_valid` (R34) -/
  rspValid : Bool
  /-- `rsp_word` (R34) -/
  rspWord : Word
  /-- `rsp_refused` (R34) -/
  rspRefused : Bool
  /-- the wire-event trace (00_scope.md R15), oldest first -/
  trace : List Event
  /-- the length of the trace at the last block reset (the model's, log 12) -/
  traceBase : Nat
  /-- the panel agent's busy answers, numbered from 0 (60_exceptions.md R322, log 4) -/
  panel : List Bool
  /-- the number of the next busy sample (log 4) -/
  drawIx : Nat
  /-- the number of the next open level of `BUSY` at the synchronizer's input (log 5) -/
  levelIx : Nat
  /-- the number of the next free value of `mosi` (log 6) -/
  freeIx : Nat
  /-- the number of block resets so far (log 7) -/
  epoch : Nat
  /-- what the host and the owner of `rst_n` do next (log 10) -/
  agenda : List Request
deriving DecidableEq, Repr

/-- The block never faults: "The block has no traps" (60_exceptions.md R305), and no open behaviour is treated as a fault
(93_implementation_defined.md part 1). There is no way to raise one, which is safe. -/
inductive Fault
deriving DecidableEq, Repr

/-- Why a step may give no next state. The spec's own refusals (R301) are next states, not these. -/
inductive Refusal where
  /-- raised by an arm of `exec` whose instruction has no meaning yet; no arm is left in that case; safe -/
  | notModelled (mnemonic : String)
  /-- raised by `step` for an agenda entry that hands the framer a wire byte outside the panel command set of 30_encoding.md
  R117, which is no instruction of the opcode table; safe (log 11) -/
  | notWireCommand (b : Byte)
deriving DecidableEq, Repr

/-- Block reset of an instance with parameters `p`: every element at its value of 10_state.md R56, and the model's own fields
at their first values (log 12). The buffer lists nothing: its bytes are launch values (R49). -/
def State.resetWith (p : Params) : State where
  cfg := p
  txnOpen := false
  csN := true
  dc := true
  rstN := true
  sck := false
  mosi := false
  spiHz := paramSpiHzDefault p
  count := 0#8
  initialized := false
  fullMode := true
  powerOn := false
  rotation := 0#2
  status := 0#12
  sync1 := true
  sync2 := true
  busyLast := true
  buf := []
  latched := none
  position := 0
  loopCtr := 0
  opTimeout := false
  opDone := false
  forced := false
  opReady := true
  rspValid := false
  rspWord := 0#32
  rspRefused := false
  trace := []
  traceBase := 0
  panel := []
  drawIx := 0
  levelIx := 0
  freeIx := 0
  epoch := 0
  agenda := []

/-- The machine right after its first block reset (R56, R340, R343). The parameters are those of `Config.params`, of which
nothing is known (R8). -/
def State.reset : State := State.resetWith Config.params

/-- `op_valid` (R34): the host presents an op word. -/
def State.opValid (s : State) : Bool :=
  match s.agenda with
  | .present (.op _) :: _ | .blockResetDuring _ _ :: _ => true
  | .present (.wire _) :: _ | .blockReset :: _ | [] => false

/-- `op_word` (R34): the op word presented, if any. -/
def State.opWord (s : State) : Option OpWord :=
  match s.agenda with
  | .present (.op w) :: _ | .blockResetDuring w _ :: _ => some w
  | .present (.wire _) :: _ | .blockReset :: _ | [] => none

end Sys2Proof.Machine
end

