-- ==== Sys2Proof/Machine/Flags.lean ====
section
/-! DEFINITION. The sticky status flags and the registers that show them (60_exceptions.md R300 to R302, 10_state.md R52, R53).
The block has no arithmetic flags (R58). -/

namespace Sys2Proof.Machine

open Sys2Proof

/-- The status flags, in the order of their bits (R300). -/
inductive Flag where
  | errNoTxn
  | errReentrant
  | errUnmatchedEnd
  | errRotation
  | errPowerState
  | waitTimeout
  | updateDropped
  | errIllegalOp
  | errNotInit
  | hazCmdWhileBusy
  | errTxnAbandoned
  | errRestore
deriving DecidableEq, Repr

/-- The bit of a flag in `status` (R52, R300). -/
def flagBit : Flag → Nat
  | .errNoTxn => 0
  | .errReentrant => 1
  | .errUnmatchedEnd => 2
  | .errRotation => 3
  | .errPowerState => 4
  | .waitTimeout => 5
  | .updateDropped => 6
  | .errIllegalOp => 7
  | .errNotInit => 8
  | .hazCmdWhileBusy => 9
  | .errTxnAbandoned => 10
  | .errRestore => 11

/-- The word with only a flag's bit set. -/
def flagMask (f : Flag) : BitVec 12 := BitVec.twoPow 12 (flagBit f)

/-- `raise F` (R302): set the sticky flag and go on. -/
def State.raise (f : Flag) (s : State) : State := { s with status := s.status ||| flagMask f }

/-- `raise F` where a condition holds. -/
def State.raiseIf (c : Bool) (f : Flag) (s : State) : State := if c then s.raise f else s

/-- Clear the sticky flags under a mask (44_system.md R281). -/
def State.clearFlags (m : BitVec 12) (s : State) : State := { s with status := s.status &&& ~~~m }

/-- The `STATUS` register (10_state.md R52). -/
def statusRegister (s : State) : Word :=
  0#14 ++ BitVec.ofBool s.busyLast ++ BitVec.ofBool s.txnOpen ++ 0#4 ++ s.status

/-- The `STATE` register, the PanelState snapshot (10_state.md R53). -/
def stateRegister (s : State) : Word :=
  0#16 ++ s.count ++ 0#5 ++ BitVec.ofBool s.powerOn ++ BitVec.ofBool s.fullMode ++ BitVec.ofBool s.initialized

end Sys2Proof.Machine
end

