-- ==== Sys2Proof/Machine/Memory.lean ====
section
/-! DEFINITION. The pixel buffer, the block's one memory (20_memory.md R70): byte indices, one byte an access. It is held as the
list of the bytes written since block reset, in rising order of index with no index twice. What an index nothing has
written reads as is the launch value of R49 (log 7). -/

namespace Sys2Proof.Machine

open Sys2Proof

/-- The canonical form: indices strictly rising. (An unlisted index has no value of its own that an entry could repeat:
it reads as a launch value, of which nothing is known.) -/
def memWf : List Host.Cell → Bool
  | [] => true
  | [_] => true
  | (i, _) :: (j, w) :: rest => decide (i < j) && memWf ((j, w) :: rest)

/-- The byte written at an index, if any. -/
def memGet : List Host.Cell → Nat → Option Byte
  | [], _ => none
  | (j, v) :: rest, i => if i = j then some v else memGet rest i

/-- Write the byte at an index, keeping the canonical form. -/
def memSet : List Host.Cell → Nat → Byte → List Host.Cell
  | [], i, v => [(i, v)]
  | (j, w) :: rest, i, v =>
    if i < j then (i, v) :: (j, w) :: rest
    else if i = j then (i, v) :: rest
    else (j, w) :: memSet rest i v

/-- Write one byte value at the first `n` indices, in index order (43_pixels.md R265). -/
def memFill : Nat → Byte → List Host.Cell → List Host.Cell
  | 0, _, m => m
  | n + 1, v, m => memSet (memFill n v m) n v

/-- `MemRead(i, 1)` (00_scope.md R13): a byte nothing has written since block reset reads as its launch value (R49). -/
def State.readByte (s : State) (i : Nat) : Byte := (memGet s.buf i).getD (Config.launchByte s.epoch i)

/-- `MemWrite(i, 1, v)` (R13). -/
def State.writeByte (i : Nat) (v : Byte) (s : State) : State := { s with buf := memSet s.buf i v }

/-- Every byte of the buffer takes the same value (R265). -/
def State.fillBuf (v : Byte) (s : State) : State := { s with buf := memFill (bufBytes s.cfg) v s.buf }

/-- The whole buffer in index order, as the pixel burst sends it (R76, 41_sequencer.md R195). -/
def State.bufImage (s : State) : List Byte := (List.range (bufBytes s.cfg)).map s.readByte

end Sys2Proof.Machine
end

