-- ==== Sys2Proof/Machine/Operands.lean ====
section
/-! DEFINITION. The operand forms of the operations: signed pixel coordinates, rotation maps, colours, the place of a pixel in the
buffer, and the fields of a restore snapshot (30_encoding.md R105 to R111, 43_pixels.md R261 to R263, 20_memory.md R71). -/

namespace Sys2Proof.Machine

open Sys2Proof

/-- The byte that holds a physical pixel (20_memory.md R71). -/
def byteIndex (p : Params) (px py : Nat) : Nat := py * rowBytes p + px / 8

/-- The mask of a physical pixel in its byte: the leftmost pixel is bit 7 (R71). -/
def bitMask (px : Nat) : Byte := 0x80#8 >>> (px % 8)

/-- The map of a rotation class (R262). -/
def coordMapOf (m : RotMap) (r : BitVec 2) : CoordMap :=
  match r.toNat with
  | 0 => m.class0
  | 1 => m.class1
  | 2 => m.class2
  | _ => m.class3

/-- The default map of a rotation class (R262): class 0 the identity, class 1 `(W-1-y, x)`, class 2 `(W-1-x, H-1-y)`, class 3
`(y, H-1-x)`; as mirrors of the physical axes after the exchange of axes of the odd classes. -/
def defaultMirror (r : BitVec 2) : Bool × Bool :=
  match r.toNat with
  | 0 => (false, false)
  | 1 => (true, false)
  | 2 => (true, true)
  | _ => (false, true)

/-- `ROT_MAP` at its default (R8, R262). -/
def defaultRotMap : RotMap where
  class0 := .flip false false
  class1 := .flip true false
  class2 := .flip true true
  class3 := .flip false true

/-- `W - 1 - v` where mirrored, else `v`. -/
def mirrorIf (m : Bool) (size v : Nat) : Nat := if m then size - 1 - v else v

/-- A mirror map of class `r` (R262): odd classes exchange the axes. -/
def flipMap (p : Params) (r : BitVec 2) (mirrors : Bool × Bool) (x y : Nat) : Nat × Nat :=
  let uv := if r.getLsbD 0 then (y, x) else (x, y)
  (mirrorIf mirrors.1 (paramW p) uv.1, mirrorIf mirrors.2 (paramH p) uv.2)

/-- A table is a coordinate map of the instance: as many cells as pixels, every cell on the panel, none twice. So it is a
bijection of the logical onto the physical rectangle, as R262 requires of a replacement. -/
def tableFits (p : Params) (cells : List (Nat × Nat)) : Bool :=
  decide (cells.length = paramW p * paramH p)
    && cells.all (fun c => decide (c.1 < paramW p) && decide (c.2 < paramH p)) && decide cells.Nodup

/-- `ROT_MAP[r](x, y)` (R262), for an in-range logical coordinate. A table that is no bijection stands for the default map of
its class (log 3). -/
def rotMapAt (p : Params) (r : BitVec 2) (x y : Nat) : Nat × Nat :=
  match coordMapOf p.rotMap r with
  | .flip mx my => flipMap p r (mx, my) x y
  | .table cells =>
    if tableFits p cells then cells.getD (y * logicalW p r + x) (0, 0) else flipMap p r (defaultMirror r) x y

/-- A logical coordinate is in range: `0 <= x < LW` and `0 <= y < LH`, as signed integers (R106, R261). -/
def inRange (p : Params) (r : BitVec 2) (x y : Half) : Bool :=
  decide (0 ≤ x.toInt) && decide (x.toInt < logicalW p r) && decide (0 ≤ y.toInt) && decide (y.toInt < logicalH p r)

/-- The physical pixel of an in-range coordinate operand. -/
def physicalOf (p : Params) (r : BitVec 2) (x y : Half) : Nat × Nat := rotMapAt p r x.toInt.toNat y.toInt.toNat

/-- The buffer index of an in-range coordinate operand. -/
def pixelIndex (p : Params) (r : BitVec 2) (x y : Half) : Nat :=
  byteIndex p (physicalOf p r x y).1 (physicalOf p r x y).2

/-- The mask of an in-range coordinate operand. -/
def pixelMask (p : Params) (r : BitVec 2) (x y : Half) : Byte := bitMask (physicalOf p r x y).1

/-- A colour operand of `DRAW_PIXEL` is white exactly when it is not 0 (R263). -/
def isWhite (c : Half) : Bool := c != 0#16

/-- A byte with the bits of a mask set for white and cleared for black (R264). -/
def paint (c : Half) (m v : Byte) : Byte := if isWhite c then v ||| m else v &&& ~~~m

/-- The byte that `FILL` writes: the colour's low byte (R265). -/
def fillByte (c : Half) : Byte := c.extractLsb' 0 8

/-- `FULL_MODE` of a snapshot (R53). -/
def snapFullMode (s : Word) : Bool := s.getLsbD 1

/-- `POWER_ON` of a snapshot (R53). -/
def snapPowerOn (s : Word) : Bool := s.getLsbD 2

/-- `COUNT` of a snapshot (R53). -/
def snapCount (s : Word) : BitVec 8 := s.extractLsb' 8 8

/-- The low and the high byte of a row address, in wire order (20_memory.md R77). -/
def rowBytesLsbFirst (y : Half) : List Byte := [y.extractLsb' 0 8, y.extractLsb' 8 8]

end Sys2Proof.Machine
end

