-- ==== Sys2Proof/Machine/Ops.lean ====
section
/-! DEFINITION. The named operations over the state: samples and events, the framer primitives (40_framer.md R141 to R150), how an
operation begins and answers, and the one shared way an operation is refused (60_exceptions.md R301, R303). The block takes
no exception and has no return from one (R305): `State.refuse` is what stands in their place. -/

namespace Sys2Proof.Machine

open Sys2Proof

/-! ### Events and samples -/

/-- `emit E` (00_scope.md R13): append a wire event to the trace. -/
def State.emit (e : Event) (s : State) : State := { s with trace := s.trace ++ [e], position := s.position + 1 }

/-- The panel's answer to busy sample number `n` (60_exceptions.md R322): scripted, else a free draw (log 4). -/
def drawOf (panel : List Bool) (n : Nat) : Bool := (panel[n]?).getD (Config.busyDraw n)

/-- The answer that the `k`-th sample from here on will get. -/
def State.sampleAt (s : State) (k : Nat) : Bool := drawOf s.panel (s.drawIx + k)

/-- One edge of `clk` at the busy synchronizer (10_state.md R47): the first stage takes in the level of `BUSY`, the last stage
takes what the first one held. -/
def State.clockEdge (busy : Bool) (s : State) : State := { s with sync1 := busy, sync2 := s.sync1 }

/-- The clock edges that bring a draw from `BUSY` to the last stage, one for each stage (R47, 41_sequencer.md R180). The level of
`BUSY` at the second edge is open (R198, log 5). -/
def State.clockSync (b : Bool) (s : State) : State :=
  let s1 := (s.clockEdge b).clockEdge (Config.syncStage s.drawIx)
  { s1 with drawIx := s.drawIx + 1 }

/-- The clock goes on where nothing samples the line: both stages take in open levels of `BUSY` (R47, log 5). -/
def State.clockOn (s : State) : State :=
  let s1 := (s.clockEdge (Config.busyLevel s.levelIx)).clockEdge (Config.busyLevel (s.levelIx + 1))
  { s1 with levelIx := s.levelIx + 2 }

/-- `sample()` (R180): the synchronized busy value, kept in `busy_last`. The value is the new `busyLast`. -/
def State.sample (s : State) : State :=
  let s1 := s.clockSync (s.sampleAt 0)
  { s1 with busyLast := s1.sync2 }

/-- `poll()` (R182): a sample that is recorded on the trace. -/
def State.poll (s : State) : State :=
  let s1 := s.sample
  s1.emit (.poll s1.busyLast)

/-- `delay(ms)` (40_framer.md R148). -/
def State.delay (ms : Nat) (s : State) : State := s.emit (.delay ms)

/-! ### The framer primitives -/

/-- The bits of a byte, most significant first (R141, R142). -/
def msbFirst (x : Byte) : List Bool :=
  [x.getLsbD 7, x.getLsbD 6, x.getLsbD 5, x.getLsbD 4, x.getLsbD 3, x.getLsbD 2, x.getLsbD 1, x.getLsbD 0]

/-- One bit on the serial lines: `MOSI` takes it while `SCK` is low, then `SCK` rises and falls (R142). -/
def State.clockBit (s : State) (b : Bool) : State :=
  let s1 := { s with mosi := b }
  let s2 := { s1 with sck := true }
  { s2 with sck := false }

/-- Between bytes the level of `MOSI` is open (10_state.md R37): a free value (log 6). -/
def State.releaseMosi (s : State) : State := { s with mosi := Config.mosiIdle s.freeIx, freeIx := s.freeIx + 1 }

/-- A byte with its level of `DC`, as `shift` is given it (R142). -/
inductive WireByte where
  | cmd (x : Byte)
  | dat (x : Byte)
deriving DecidableEq, Repr

/-- The level of `DC` while the byte is shifted: 0 for a command, 1 for data (R142). -/
def wireDc : WireByte → Bool
  | .cmd _ => false
  | .dat _ => true

/-- The byte itself. -/
def wireValue : WireByte → Byte
  | .cmd x => x
  | .dat x => x

/-- The event of a shifted byte (R142). -/
def wireEvent : WireByte → Event
  | .cmd x => .cmd x
  | .dat x => .dat x

/-- `shift(d, x)` (R142). Callers call it only while a transaction is open (R146). -/
def State.shift (s : State) (w : WireByte) : State :=
  let s1 := { s with dc := wireDc w }
  let s2 := ((msbFirst (wireValue w)).foldl State.clockBit s1).releaseMosi
  ({ s2 with dc := true }).emit (wireEvent w)

/-- `txn_begin()` (R143): sample busy, report a start while busy, select the panel. -/
def State.txnBegin (s : State) : State :=
  let s1 := s.sample
  let s2 := s1.raiseIf s1.busyLast .hazCmdWhileBusy
  ({ s2 with csN := false, txnOpen := true }).emit (.csOn s1.busyLast)

/-- `txn_end()` (R144). -/
def State.txnEnd (s : State) : State := ({ s with csN := true, txnOpen := false }).emit .csOff

/-- One transaction that shifts a list of bytes (41_sequencer.md R196). -/
def State.txn (bytes : List WireByte) (s : State) : State := (bytes.foldl State.shift s.txnBegin).txnEnd

/-- `bus_config(f)` (R149): the rate, and the idle levels, which close an open transaction. -/
def State.busConfig (f : Word) (s : State) : State :=
  let s1 := ({ s with spiHz := f }).emit (.cfg f)
  let s2 := s1.raiseIf s1.txnOpen .errTxnAbandoned
  ({ s2 with csN := true, dc := true, rstN := true, sck := false, txnOpen := false }).emit .idle

/-- `RST_N` driven to a level (R150). -/
def State.driveReset (v : Bool) (s : State) : State := ({ s with rstN := v }).emit (.rst v)

/-- `reset_seq()` (R150): the panel hard reset. -/
def State.resetSeq (s : State) : State :=
  let s1 := (s.driveReset false).delay resetMs
  let s2 := (s1.driveReset true).delay resetMs
  { s2 with initialized := false, powerOn := false }

/-! ### The beginning and the end of an operation -/

/-- The per-operation flags start at 0 when an operation begins (00_scope.md R14), and so does its position. -/
def State.beginOp (s : State) : State :=
  { s with opTimeout := false, opDone := false, forced := false, position := 0, loopCtr := 0 }

/-- The sequencer holds no micro-state when it is idle (10_state.md R32). -/
def State.clearMicro (s : State) : State :=
  { s with latched := none, position := 0, loopCtr := 0, opTimeout := false, opDone := false, forced := false }

/-- The response of an operation on the host port (R34, 60_exceptions.md R303): `rsp_valid` rises and the micro-state ends. -/
def State.answer (w : Word) (s : State) : State :=
  { s.clearMicro with opReady := false, rspValid := true, rspWord := w, rspRefused := false }

/-- `refuse F` (60_exceptions.md R301): the flag, and a response with `rsp_refused = 1`; nothing else. -/
def State.refuse (f : Flag) (s : State) : State := { (s.raise f).answer 0#32 with rspRefused := true }

/-- The response word of the operations that report `DONE`, `TIMEOUT` and `FORCED` (R303). -/
def doneWord (done timeout forced : Bool) : Word :=
  0#29 ++ BitVec.ofBool forced ++ BitVec.ofBool timeout ++ BitVec.ofBool done

/-- Answer with the per-operation flags (R303). -/
def State.answerDone (s : State) : State := s.answer (doneWord s.opDone s.opTimeout s.forced)

/-- An operation that refuses while a condition holds, and otherwise runs its body: no operation has more than one refusal
check, and it stands first (60_exceptions.md R304). -/
def State.unless (bad : Bool) (f : Flag) (body : State → State) (s : State) : State :=
  if bad then s.refuse f else body s.beginOp

/-- Do something where a condition holds. -/
def State.doIf (c : Bool) (f : State → State) (s : State) : State := if c then f s else s

end Sys2Proof.Machine
end

