-- ==== Sys2Proof/Machine/Sequencer.lean ====
section
/-! DEFINITION. The protocol helpers, the LUT and power sequencer, the RAM-window address controller and the bounded busy wait
(41_sequencer.md R184 to R197), and the shared bodies of the engine operations (42_engine.md R222, R224, R226). -/

namespace Sys2Proof.Machine

open Sys2Proof

/-! ### The panel command set (30_encoding.md R117, R118) -/

def cmdActivation : Byte := 0x20#8
def cmdUpdateControl : Byte := 0x22#8
def cmdPixelData : Byte := 0x24#8
def cmdWriteLut : Byte := 0x32#8
def cmdSetRamX : Byte := 0x44#8
def cmdSetRamY : Byte := 0x45#8
def cmdSetRamXCounter : Byte := 0x4E#8
def cmdSetRamYCounter : Byte := 0x4F#8
def cmdNopTerminator : Byte := 0xFF#8

/-- Update-control data: clock and charge pump on (R118). -/
def ctrlPowerOn : Byte := 0xC0#8
/-- Update-control data: the full-update code (R118). -/
def ctrlUpdateFull : Byte := 0xC4#8
/-- Update-control data: the partial-update code (R118). -/
def ctrlUpdatePart : Byte := 0x04#8

/-! ### Bounded busy wait (R184) -/

/-- The rest of `wait_busy()` with `n` polls left of `MAX_POLLS`. -/
def State.waitLoop : Nat → State → State
  | 0, s => { (s.raise .waitTimeout) with opTimeout := true, loopCtr := 0 }
  | n + 1, s =>
    let s1 := ({ s with loopCtr := s.loopCtr + 1 }).poll
    if s1.busyLast then State.waitLoop n (s1.delay pollMs) else { s1 with loopCtr := 0 }

/-- `wait_busy()` (R184). -/
def State.waitBusy (s : State) : State := State.waitLoop maxPolls { s with loopCtr := 0 }

/-! ### Configuration block and RAM window (R186 to R189) -/

/-- The bytes of one entry of `CONFIG_BLOCK` (R186). -/
def configEntryBytes (e : Byte × List Byte) : List WireByte := .cmd e.1 :: e.2.map .dat

/-- `tx_config()` (R186). -/
def State.txConfig (s : State) : State := s.txn (s.cfg.configBlock.flatMap configEntryBytes)

/-- The bytes of `set_ram_area` (R187). -/
def ramAreaBytes (xs xe : Byte) (ys ye : Half) : List WireByte :=
  [.cmd cmdSetRamX, .dat xs, .dat xe, .cmd cmdSetRamY] ++ (rowBytesLsbFirst ys).map .dat ++ (rowBytesLsbFirst ye).map .dat

/-- `set_ram_area(xs, xe, ys, ye)` (R187). -/
def State.setRamArea (xs xe : Byte) (ys ye : Half) (s : State) : State := s.txn (ramAreaBytes xs xe ys ye)

/-- The bytes of `set_ram_pointer` (R188). -/
def ramPointerBytes (x : Byte) (y : Half) : List WireByte :=
  [.cmd cmdSetRamXCounter, .dat x, .cmd cmdSetRamYCounter] ++ (rowBytesLsbFirst y).map .dat

/-- `set_ram_pointer(x, y)` (R188). -/
def State.setRamPointer (x : Byte) (y : Half) (s : State) : State := s.txn (ramPointerBytes x y)

/-- `set_addresses()` (R189): the whole-panel window, the pointer at its origin. -/
def State.setAddresses (s : State) : State :=
  (s.setRamArea 0#8 (lastXByte s.cfg) 0#16 (lastRow s.cfg)).setRamPointer 0#8 0#16

/-! ### LUT and power sequencer (R190 to R194) -/

/-- The bytes of both power sequences: update-control with a data byte, then activation (R190, R191). -/
def powerBytes (ctrl : Byte) : List WireByte := [.cmd cmdUpdateControl, .dat ctrl, .cmd cmdActivation]

/-- `power_on_seq()` (R190). -/
def State.powerOnSeq (s : State) : State :=
  let s1 := (s.raiseIf s.powerOn .errPowerState).txn (powerBytes ctrlPowerOn)
  ({ s1 with powerOn := true }).doIf s1.cfg.powerSeqWait State.waitBusy

/-- `power_off_seq()` (R191). -/
def State.powerOffSeq (s : State) : State :=
  let s1 := (s.raiseIf (!s.powerOn) .errPowerState).txn (powerBytes (paramPowerOffCtrl s.cfg))
  ({ s1 with powerOn := false }).doIf s1.cfg.powerSeqWait State.waitBusy

/-- The bytes of `write_lut` (R192). -/
def lutBytes (lut : Vector Byte 30) : List WireByte := .cmd cmdWriteLut :: lut.toList.map .dat

/-- `write_lut(L)` (R192), `L` the table of a mode. -/
def State.writeLut (full : Bool) (s : State) : State := s.txn (lutBytes (if full then s.cfg.lutFull else s.cfg.lutPart))

/-- The bytes of an update activation (R193, R194). -/
def activationBytes (ctrl : Byte) : List WireByte :=
  [.cmd cmdUpdateControl, .dat ctrl, .cmd cmdActivation, .cmd cmdNopTerminator]

/-- `send_update_full()` (R193). -/
def State.sendUpdateFull (s : State) : State := s.txn (activationBytes ctrlUpdateFull)

/-- `send_update_part()` (R194). -/
def State.sendUpdatePart (s : State) : State := s.txn (activationBytes ctrlUpdatePart)

/-! ### Pixel-data transfer (R195) -/

/-- The bytes of the pixel burst: the command and the whole buffer in index order. -/
def burstBytes (image : List Byte) : List WireByte := .cmd cmdPixelData :: image.map .dat

/-- `write_display_data()` (R195). -/
def State.writeDisplayData (s : State) : State :=
  let s1 := s.waitBusy
  s1.txn (burstBytes s1.bufImage)

/-! ### Shared bodies of the engine operations -/

/-- `restore(s)` (42_engine.md R222): PanelState from a snapshot, the count clamped, `initialized` cleared. -/
def State.restore (snap : Word) (s : State) : State :=
  let above := decide (paramThreshold s.cfg < (snapCount snap).toNat)
  let s1 := s.raiseIf above .errRestore
  { s1 with
    fullMode := snapFullMode snap
    powerOn := snapPowerOn snap
    count := if above then BitVec.ofNat 8 (paramThreshold s.cfg) else snapCount snap
    initialized := false }

/-- The body of `INIT` before a restore (R221). -/
def State.initBus (s : State) : State := ((s.busConfig s.spiHz).resetSeq).txConfig

/-- The entry sequence of `enter_mode(f)` where it is not the idempotent no-op (R224). -/
def State.enterModeRun (f : Bool) (s : State) : State :=
  let s1 := { s with opDone := true, initialized := true, fullMode := f }
  let s2 := ((s1.doIf f State.setAddresses).writeLut f).powerOnSeq
  s2.doIf s2.cfg.powerOffAfterModeEntry State.powerOffSeq

/-- `enter_mode(f)` (R224). -/
def State.enterMode (f : Bool) (s : State) : State := if s.fullMode == f && s.initialized then s else s.enterModeRun f

/-- One transfer of the whole buffer, the window programmed first in partial mode (R226). -/
def State.transfer (s : State) : State := (s.doIf (!s.fullMode) State.setAddresses).writeDisplayData

/-- The mode-appropriate activation (R226). -/
def State.activate (s : State) : State := if s.fullMode then s.sendUpdateFull else s.sendUpdatePart

/-- The steps of `do_update()` after the drop check (R226). -/
def State.performUpdate (s : State) : State :=
  let s1 := s.raiseIf (!s.initialized) .errNotInit
  let s2 := (s1.doIf (!s1.powerOn) State.powerOnSeq).transfer.activate
  let s3 := s2.doIf (!s2.fullMode) State.transfer
  let s4 := s3.doIf s3.cfg.syncMode State.waitBusy
  s4.doIf s4.cfg.powerOffAfterUpdate State.powerOffSeq

/-- `do_update()` (R226): the state after it, and whether it was performed. -/
def State.doUpdate (s : State) : State × Bool :=
  if s.cfg.syncMode then (s.performUpdate, true)
  else
    let s1 := s.poll
    if s1.busyLast then (s1.raise .updateDropped, false) else (s1.performUpdate, true)

/-- The forced full cycle of `UPDATE_PF` (R228). -/
def State.forcedCycle (s : State) : State :=
  let u1 := s.doUpdate
  let u2 := ((u1.1.enterMode true).waitBusy).doUpdate
  { (u2.1.enterMode false) with count := 0#8, forced := true, opDone := u1.2 && u2.2 }

/-- The body of `UPDATE` (R227). -/
def State.updateOnce (s : State) : State :=
  let u := s.doUpdate
  { u.1 with opDone := u.2 }

/-- The body of `UPDATE_PF` (R228): increment, then compare. -/
def State.updatePartOrFull (s : State) : State :=
  let c := s.count.toNat + 1
  if paramThreshold s.cfg ≤ c then s.forcedCycle else ({ s with count := BitVec.ofNat 8 c }).updateOnce

end Sys2Proof.Machine
end

