-- ==== Sys2Proof/Machine/Engine.lean ====
section
/-! DEFINITION. The host operations of the panel protocol engine (42_engine.md R220 to R230). -/

namespace Sys2Proof.Machine

open Sys2Proof

/-- `INIT` (R221): bus initialisation, panel hard reset, configuration block. -/
def execInit (s : State) : Host.Outcome State Fault Refusal := .next (s.beginOp.initBus.answer 0#32)

/-- `INIT s` (R221, R222): the same, and then the restore. -/
def execInitS (snap : Word) (s : State) : Host.Outcome State Fault Refusal :=
  .next ((s.beginOp.initBus.restore snap).answer 0#32)

/-- `ENTER_FULL` (R220, R223). -/
def execEnterFull (s : State) : Host.Outcome State Fault Refusal :=
  .next (s.unless s.txnOpen .errReentrant fun t => (t.enterMode true).answerDone)

/-- `ENTER_PARTIAL` (R220, R225). -/
def execEnterPartial (s : State) : Host.Outcome State Fault Refusal :=
  .next (s.unless s.txnOpen .errReentrant fun t => (t.enterMode false).answerDone)

/-- `UPDATE` (R220, R227). -/
def execUpdate (s : State) : Host.Outcome State Fault Refusal :=
  .next (s.unless s.txnOpen .errReentrant fun t => t.updateOnce.answerDone)

/-- `UPDATE_PF` (R220, R228). -/
def execUpdatePf (s : State) : Host.Outcome State Fault Refusal :=
  .next (s.unless s.txnOpen .errReentrant fun t => t.updatePartOrFull.answerDone)

/-- `IS_BUSY` (R229): the busy sample is the answer. -/
def execIsBusy (s : State) : Host.Outcome State Fault Refusal :=
  let s1 := s.beginOp.poll
  .next (s1.answer (0#31 ++ BitVec.ofBool s1.busyLast))

/-- `WAIT_BUSY` (R230): `op_done` is the complement of `op_timeout`. -/
def execWaitBusy (s : State) : Host.Outcome State Fault Refusal :=
  let s1 := s.beginOp.waitBusy
  .next ({ s1 with opDone := !s1.opTimeout }).answerDone

end Sys2Proof.Machine
end

