-- ==== Sys2Proof/Machine/Framer.lean ====
section
/-! DEFINITION. The eight host operations of the bus transaction framer (40_framer.md R151 to R158). Each answers 0 (R303). -/

namespace Sys2Proof.Machine

open Sys2Proof

/-- `BUS_RESET` (R152): the panel hard reset; an open transaction stays open. -/
def execBusReset (s : State) : Host.Outcome State Fault Refusal := .next ((s.beginOp.resetSeq).answer 0#32)

/-- `BUS_INIT f` (R151): refused for `f = 0`. -/
def execBusInit (f : Word) (s : State) : Host.Outcome State Fault Refusal :=
  .next (s.unless (f == 0#32) .errIllegalOp fun t => ((t.busConfig f).resetSeq).answer 0#32)

/-- `TXN_START` (R153): refused while a transaction is open. -/
def execTxnStart (s : State) : Host.Outcome State Fault Refusal :=
  .next (s.unless s.txnOpen .errReentrant fun t => t.txnBegin.answer 0#32)

/-- `TXN_END` (R154): refused while none is open. -/
def execTxnEnd (s : State) : Host.Outcome State Fault Refusal :=
  .next (s.unless (!s.txnOpen) .errUnmatchedEnd fun t => t.txnEnd.answer 0#32)

/-- `WCMD b` (R155): refused outside a transaction. -/
def execWcmd (b : Byte) (s : State) : Host.Outcome State Fault Refusal :=
  .next (s.unless (!s.txnOpen) .errNoTxn fun t => (t.shift (.cmd b)).answer 0#32)

/-- `WDATA b` (R156): refused outside a transaction. -/
def execWdata (b : Byte) (s : State) : Host.Outcome State Fault Refusal :=
  .next (s.unless (!s.txnOpen) .errNoTxn fun t => (t.shift (.dat b)).answer 0#32)

/-- `WCMD_T b` (R157): one command byte in a transaction of its own; refused inside one. -/
def execWcmdT (b : Byte) (s : State) : Host.Outcome State Fault Refusal :=
  .next (s.unless s.txnOpen .errReentrant fun t => (t.txn [.cmd b]).answer 0#32)

/-- `WDATA_T b` (R158): one data byte in a transaction of its own; refused inside one. -/
def execWdataT (b : Byte) (s : State) : Host.Outcome State Fault Refusal :=
  .next (s.unless s.txnOpen .errReentrant fun t => (t.txn [.dat b]).answer 0#32)

end Sys2Proof.Machine
end

