-- ==== Sys2Proof/Machine/Pixels.lean ====
section
/-! DEFINITION. The pixel buffer and rotation operations (43_pixels.md R260 to R266). None emits a wire event. -/

namespace Sys2Proof.Machine

open Sys2Proof

/-- `SET_ROTATION r` (R260): a value of 4 or more is reported and ignored. -/
def execSetRotation (r : Byte) (s : State) : Host.Outcome State Fault Refusal :=
  let t := s.beginOp
  .next ((if 4 ≤ r.toNat then t.raise .errRotation else { t with rotation := r.extractLsb' 0 2 }).answer 0#32)

/-- The one-byte read-modify-write of an in-range pixel (R264). -/
def State.drawAt (x y c : Half) (s : State) : State :=
  let i := pixelIndex s.cfg s.rotation x y
  s.writeByte i (paint c (pixelMask s.cfg s.rotation x y) (s.readByte i))

/-- `DRAW_PIXEL x, y, c` (R264): out-of-range coordinates are ignored without a flag. -/
def execDrawPixel (x y c : Half) (s : State) : Host.Outcome State Fault Refusal :=
  .next ((s.beginOp.doIf (inRange s.cfg s.rotation x y) (State.drawAt x y c)).answer 0#32)

/-- `FILL c` (R265): every byte takes the colour's low byte. -/
def execFill (c : Half) (s : State) : Host.Outcome State Fault Refusal :=
  .next ((s.beginOp.fillBuf (fillByte c)).answer 0#32)

/-- The answer of `GET_PIXEL` (R266). -/
def pixelAnswer (s : State) (x y : Half) : Word :=
  if inRange s.cfg s.rotation x y then
    if s.readByte (pixelIndex s.cfg s.rotation x y) &&& pixelMask s.cfg s.rotation x y != 0#8 then 0x00000001#32
    else 0x00000000#32
  else 0x00000100#32

/-- `GET_PIXEL x, y` (R266): no side effect. -/
def execGetPixel (x y : Half) (s : State) : Host.Outcome State Fault Refusal :=
  .next (s.beginOp.answer (pixelAnswer s x y))

end Sys2Proof.Machine
end

