-- ==== Sys2Proof/Machine/System.lean ====
section
/-! DEFINITION. The register view and the status clear (44_system.md R280, R281). -/

namespace Sys2Proof.Machine

open Sys2Proof

/-- The register view (10_state.md R51, R280): the value of a defined register number, none for a reserved one. -/
def registerView (s : State) (n : Byte) : Option Word :=
  match n.toNat with
  | 0 => some (statusRegister s)
  | 1 => some (stateRegister s)
  | 2 => some (configRegister s.cfg)
  | 3 => some (geometryRegister s.cfg)
  | 4 => some (0#30 ++ s.rotation)
  | 5 => some s.spiHz
  | 6 => some (BitVec.ofNat 32 (bufBytes s.cfg))
  | _ => none

/-- `READ_REG n` (R280): a reserved number is refused; the read has no side effect. -/
def execReadReg (n : Byte) (s : State) : Host.Outcome State Fault Refusal :=
  .next (match registerView s n with
    | some w => s.beginOp.answer w
    | none => s.refuse .errIllegalOp)

/-- `CLEAR_STATUS m` (R281). -/
def execClearStatus (m : BitVec 12) (s : State) : Host.Outcome State Fault Refusal :=
  .next ((s.beginOp.clearFlags m).answer 0#32)

end Sys2Proof.Machine
end

