-- ==== Sys2Proof/Machine/WireLayer.lean ====
section
/-! DEFINITION. The nine command bytes of the wire layer (30_encoding.md R116, R117). To run one is to shift its byte with `DC = 0`
(40_framer.md R142). No byte is shifted while chip-select is deasserted (R146): outside a transaction the byte is not sent and
`ERR_NO_TXN` reports it, as for every byte write (R155). It is no host operation, so it has no response. Log 11. -/

namespace Sys2Proof.Machine

open Sys2Proof

/-- A command byte handed to the framer. -/
def State.wireCommand (b : Byte) (s : State) : State :=
  if s.txnOpen then (s.beginOp.shift (.cmd b)).clearMicro else s.raise .errNoTxn

/-- activation, `0x20` -/
def execWireActivation (s : State) : Host.Outcome State Fault Refusal := .next (s.wireCommand cmdActivation)

/-- update-control, `0x22` -/
def execWireUpdateControl (s : State) : Host.Outcome State Fault Refusal := .next (s.wireCommand cmdUpdateControl)

/-- pixel-data, `0x24` -/
def execWirePixelData (s : State) : Host.Outcome State Fault Refusal := .next (s.wireCommand cmdPixelData)

/-- write-LUT, `0x32` -/
def execWireWriteLut (s : State) : Host.Outcome State Fault Refusal := .next (s.wireCommand cmdWriteLut)

/-- set-RAM-X, `0x44` -/
def execWireSetRamX (s : State) : Host.Outcome State Fault Refusal := .next (s.wireCommand cmdSetRamX)

/-- set-RAM-Y, `0x45` -/
def execWireSetRamY (s : State) : Host.Outcome State Fault Refusal := .next (s.wireCommand cmdSetRamY)

/-- set-RAM-X-counter, `0x4E` -/
def execWireSetRamXCounter (s : State) : Host.Outcome State Fault Refusal := .next (s.wireCommand cmdSetRamXCounter)

/-- set-RAM-Y-counter, `0x4F` -/
def execWireSetRamYCounter (s : State) : Host.Outcome State Fault Refusal := .next (s.wireCommand cmdSetRamYCounter)

/-- no-op terminator, `0xFF` -/
def execWireNopTerminator (s : State) : Host.Outcome State Fault Refusal := .next (s.wireCommand cmdNopTerminator)

end Sys2Proof.Machine
end

