-- ==== Sys2Proof/Machine/Dispatch.lean ====
section
/-! DEFINITION. One arm per constructor of `Instr`: each calls the meaning of its instruction. -/

namespace Sys2Proof.Machine

open Sys2Proof

/-- What an instruction does. -/
def exec (i : Instr) (s : State) : Host.Outcome State Fault Refusal :=
  match i with
  | .busReset => Sys2Proof.Machine.execBusReset s
  | .busInit f => Sys2Proof.Machine.execBusInit f s
  | .txnStart => Sys2Proof.Machine.execTxnStart s
  | .txnEnd => Sys2Proof.Machine.execTxnEnd s
  | .wcmd b => Sys2Proof.Machine.execWcmd b s
  | .wdata b => Sys2Proof.Machine.execWdata b s
  | .wcmdT b => Sys2Proof.Machine.execWcmdT b s
  | .wdataT b => Sys2Proof.Machine.execWdataT b s
  | .init => Sys2Proof.Machine.execInit s
  | .initS snap => Sys2Proof.Machine.execInitS snap s
  | .enterFull => Sys2Proof.Machine.execEnterFull s
  | .enterPartial => Sys2Proof.Machine.execEnterPartial s
  | .drawPixel x y c => Sys2Proof.Machine.execDrawPixel x y c s
  | .fill c => Sys2Proof.Machine.execFill c s
  | .update => Sys2Proof.Machine.execUpdate s
  | .updatePf => Sys2Proof.Machine.execUpdatePf s
  | .isBusy => Sys2Proof.Machine.execIsBusy s
  | .waitBusy => Sys2Proof.Machine.execWaitBusy s
  | .setRotation r => Sys2Proof.Machine.execSetRotation r s
  | .getPixel x y => Sys2Proof.Machine.execGetPixel x y s
  | .readReg n => Sys2Proof.Machine.execReadReg n s
  | .clearStatus m => Sys2Proof.Machine.execClearStatus m s
  | .wireActivation => Sys2Proof.Machine.execWireActivation s
  | .wireUpdateControl => Sys2Proof.Machine.execWireUpdateControl s
  | .wirePixelData => Sys2Proof.Machine.execWirePixelData s
  | .wireWriteLut => Sys2Proof.Machine.execWireWriteLut s
  | .wireSetRamX => Sys2Proof.Machine.execWireSetRamX s
  | .wireSetRamY => Sys2Proof.Machine.execWireSetRamY s
  | .wireSetRamXCounter => Sys2Proof.Machine.execWireSetRamXCounter s
  | .wireSetRamYCounter => Sys2Proof.Machine.execWireSetRamYCounter s
  | .wireNopTerminator => Sys2Proof.Machine.execWireNopTerminator s

end Sys2Proof.Machine
end

