-- ==== Sys2Proof/Machine/HostPort.lean ====
section
/-! DEFINITION. The host port and block reset (10_state.md R34, R35, R50; 60_exceptions.md R320; 70_reset_and_hazards.md R340 to
R343): what one entry of the agenda does. -/

namespace Sys2Proof.Machine

open Sys2Proof

/-- The host has taken the response, which is on the port for one cycle: `rsp_valid` falls and the sequencer is idle (R34). The
values of `rsp_word` and `rsp_refused` stay (log 15). -/
def State.retire (s : State) : State := { s with rspValid := false, opReady := true }

/-- The idle sequencer accepts an op word: it latches it and `op_ready` falls (R32, R34). -/
def State.accept (w : OpWord) (s : State) : State := { s.retire with latched := some w, opReady := false }

/-- The state in which a word's instruction runs: an op word is accepted; a wire byte goes to the framer without a handshake
(log 11). -/
def State.receive (c : CodeWord) (s : State) : State :=
  match c with
  | .op w => s.accept w
  | .wire _ => s.retire

/-- Run a word: a legal one as its instruction; an illegal op word is refused with `ERR_ILLEGAL_OP` (44_system.md R282). -/
def runWord (c : CodeWord) (s : State) : Host.Outcome State Fault Refusal :=
  match decode c with
  | .ok i => exec i (s.receive c)
  | .error _ =>
    match c with
    | .op w => .next ((s.accept w).refuse .errIllegalOp)
    | .wire b => .refused (.notWireCommand b)

/-- Block reset (R340): every element at its reset value. It emits no wire event (R341), so the trace stays; so do the parameters
(R57) and what the agents will do. The buffer's launch contents are new (R49, log 7). -/
def State.blockReset (s : State) : State :=
  { State.resetWith s.cfg with
    trace := s.trace
    traceBase := s.trace.length
    panel := s.panel
    drawIx := s.drawIx
    levelIx := s.levelIx
    freeIx := s.freeIx
    epoch := s.epoch + 1
    agenda := s.agenda }

/-- Whether an event carries a busy sample (R15). -/
def drawsSample : Event → Bool
  | .csOn _ | .poll _ => true
  | .cfg _ | .idle | .rst _ | .delay _ | .csOff | .cmd _ | .dat _ | .cutByte _ _ => false

/-- What the panel sees of the event at which a block reset strikes: of a byte, the bits already clocked (fewer than 8); of any
other event, nothing (R342). -/
def cutEvent (bits : Nat) : Event → List Event
  | .cmd x => if bits = 0 then [] else [.cutByte false ((msbFirst x).take (min bits 7))]
  | .dat x => if bits = 0 then [] else [.cutByte true ((msbFirst x).take (min bits 7))]
  | .cfg _ | .idle | .rst _ | .delay _ | .csOn _ | .csOff | .poll _ | .cutByte _ _ => []

/-- A prefix of an operation's events, with its last byte possibly incomplete (R342). -/
def cutTrace (cut : Cut) (evs : List Event) : List Event :=
  evs.take cut.events ++ ((evs.drop cut.events).take 1).flatMap (cutEvent cut.bits)

/-- An operation that block reset interrupts is abandoned (R50, R342): `t` is the state that it would have reached from `s`; its
events stop where they stood, it gives no response, and the state takes its reset values. -/
def State.abandon (cut : Cut) (s t : State) : State :=
  let evs := t.trace.drop s.trace.length
  { s with
    trace := s.trace ++ cutTrace cut evs
    drawIx := s.drawIx + ((evs.take cut.events).filter drawsSample).length
    freeIx := t.freeIx }.blockReset

/-- After a word has run the clock goes on, and the synchronizer with it (10_state.md R47, log 5). -/
def clockedOn (o : Host.Outcome State Fault Refusal) : Host.Outcome State Fault Refusal :=
  match o with
  | .next t => .next t.clockOn
  | .fault f => .fault f
  | .refused r => .refused r

/-- What one agenda entry does to a state from which it has been taken. -/
def serve (r : Request) (s : State) : Host.Outcome State Fault Refusal :=
  match r with
  | .present c => clockedOn (runWord c s)
  | .blockReset => .next s.blockReset
  | .blockResetDuring w cut =>
    match runWord (.op w) s with
    | .next t => .next (State.abandon cut s t)
    | .fault f => .fault f
    | .refused r => .refused r

/-- One step: the next agenda entry; with none, the port idles and a response still on it is taken (R34, R343). In either case
the clock goes on; a block reset holds the synchronizer (R35, R47). -/
def advance (s : State) : Host.Outcome State Fault Refusal :=
  match s.agenda with
  | [] => .next s.retire.clockOn
  | r :: rest => serve r { s with agenda := rest }

/-- Present a word next (log 10). -/
def State.present (c : CodeWord) (s : State) : State := { s with agenda := .present c :: s.agenda }

end Sys2Proof.Machine
end

