-- ==== Sys2Proof/Machine/Step.lean ====
section
/-! DEFINITION. One step of the block, and the placing of a word where the next step takes it. -/

namespace Sys2Proof.Machine

open Sys2Proof

/-- One step: the next agenda entry. -/
def step (s : State) : Host.Outcome State Fault Refusal := advance s

/-- The state in which the very next step runs the word of an opcode-table row: the word is what the host presents next (the
framer is handed next, for a wire command byte). Log 10. -/
def State.withFetchWord (s : State) (nbits w : Nat) : State := s.present (tableCodeWord nbits w)

end Sys2Proof.Machine
end

