-- ==== Sys2Proof/Machine/Assembler.lean ====
section
/-! DEFINITION. The operand forms of the assembly language with their ranges, the operand names, and the pseudo-instructions
(30_encoding.md R121, R122). Lines are taken after they are split into a mnemonic and operands (log 16). -/

namespace Sys2Proof.Machine

open Sys2Proof

/-- The mnemonics of the host operations (R121). -/
inductive Mnemonic where
  | BUS_RESET | BUS_INIT | TXN_START | TXN_END | WCMD | WDATA | WCMD_T | WDATA_T
  | INIT | ENTER_FULL | ENTER_PARTIAL | DRAW_PIXEL | FILL | UPDATE | UPDATE_PF | IS_BUSY | WAIT_BUSY
  | SET_ROTATION | GET_PIXEL | READ_REG | CLEAR_STATUS
deriving DecidableEq, Repr

/-- An operand: a number, a register name for `READ_REG`, or a colour name (R121). -/
inductive AsmOperand where
  | num (v : Int)
  | STATUS | STATE | CONFIG | GEOMETRY | ROTATION | SPI_HZ | BUF_BYTES
  | BLACK | WHITE
deriving DecidableEq, Repr

/-- An unsigned operand of `n` bits; an operand out of its range is rejected (R121). -/
def asmUnsigned (n : Nat) : AsmOperand → Option (BitVec n)
  | .num v => if 0 ≤ v ∧ v < 2 ^ n then some (BitVec.ofInt n v) else none
  | .STATUS | .STATE | .CONFIG | .GEOMETRY | .ROTATION | .SPI_HZ | .BUF_BYTES | .BLACK | .WHITE => none

/-- A signed 16-bit coordinate (R121). -/
def asmCoordinate : AsmOperand → Option Half
  | .num v => if -32768 ≤ v ∧ v ≤ 32767 then some (BitVec.ofInt 16 v) else none
  | .STATUS | .STATE | .CONFIG | .GEOMETRY | .ROTATION | .SPI_HZ | .BUF_BYTES | .BLACK | .WHITE => none

/-- A colour: a number or a name (R121). -/
def asmColour : AsmOperand → Option Half
  | .BLACK => some 0x0000#16
  | .WHITE => some 0xFFFF#16
  | .num v => asmUnsigned 16 (.num v)
  | .STATUS | .STATE | .CONFIG | .GEOMETRY | .ROTATION | .SPI_HZ | .BUF_BYTES => none

/-- A register: a number or a name of 10_state.md R51 (R121). -/
def asmRegister : AsmOperand → Option Byte
  | .STATUS => some 0#8
  | .STATE => some 1#8
  | .CONFIG => some 2#8
  | .GEOMETRY => some 3#8
  | .ROTATION => some 4#8
  | .SPI_HZ => some 5#8
  | .BUF_BYTES => some 6#8
  | .num v => asmUnsigned 8 (.num v)
  | .BLACK | .WHITE => none

/-- One assembly line, split into its parts (R121). A snapshot whose reserved bits are set has no legal word (R105). -/
def assemble (m : Mnemonic) (ops : List AsmOperand) : Option Instr :=
  match m, ops with
  | .BUS_RESET, [] => some .busReset
  | .BUS_INIT, [f] => (asmUnsigned 32 f).map .busInit
  | .TXN_START, [] => some .txnStart
  | .TXN_END, [] => some .txnEnd
  | .WCMD, [b] => (asmUnsigned 8 b).map .wcmd
  | .WDATA, [b] => (asmUnsigned 8 b).map .wdata
  | .WCMD_T, [b] => (asmUnsigned 8 b).map .wcmdT
  | .WDATA_T, [b] => (asmUnsigned 8 b).map .wdataT
  | .INIT, [] => some .init
  | .INIT, [s] => (asmUnsigned 32 s).map .initS
  | .ENTER_FULL, [] => some .enterFull
  | .ENTER_PARTIAL, [] => some .enterPartial
  | .DRAW_PIXEL, [x, y, c] =>
    (asmCoordinate x).bind fun x => (asmCoordinate y).bind fun y => (asmColour c).map fun c => .drawPixel x y c
  | .FILL, [c] => (asmColour c).map .fill
  | .UPDATE, [] => some .update
  | .UPDATE_PF, [] => some .updatePf
  | .IS_BUSY, [] => some .isBusy
  | .WAIT_BUSY, [] => some .waitBusy
  | .SET_ROTATION, [r] => (asmUnsigned 8 r).map .setRotation
  | .GET_PIXEL, [x, y] => (asmCoordinate x).bind fun x => (asmCoordinate y).map fun y => .getPixel x y
  | .READ_REG, [n] => (asmRegister n).map .readReg
  | .CLEAR_STATUS, [k] => (asmUnsigned 12 k).map .clearStatus
  | _, _ => none

/-- The pseudo-instructions (R122). -/
inductive Pseudo where
  | GET_STATE
  | READ_STATUS
  | CLEAR_ALL
  | SEND (c : Byte) (ds : List Byte)
deriving DecidableEq, Repr

/-- The expansion of a pseudo-instruction (R122). -/
def expandPseudo : Pseudo → List Instr
  | .GET_STATE => [.readReg 1#8]
  | .READ_STATUS => [.readReg 0#8]
  | .CLEAR_ALL => [.clearStatus 0xFFF#12]
  | .SEND c [] => [.wcmdT c]
  | .SEND c (d :: ds) => [.txnStart, .wcmd c] ++ (d :: ds).map .wdata ++ [.txnEnd]

/-- The host lines the words of a program up, in order, after what is already on its agenda. -/
def State.lineUp (prog : List Instr) (s : State) : State :=
  { s with agenda := s.agenda ++ prog.map fun i => .present (encode i) }

end Sys2Proof.Machine
end

