-- ==== Sys2Proof/Machine/Wave.lean ====
section
/-! DEFINITION. The panel port at the level of its lines: what a list of wire events looks like on `CS_N`, `DC`, `RST_N`, `SCK` and
`MOSI`, and for how many cycles of `clk` (40_framer.md R141, R142, R145, R148; 41_sequencer.md R183; 70_reset_and_hazards.md
R360). No operation reads any of this: it is a view of the trace (log 13). -/

namespace Sys2Proof.Machine

open Sys2Proof

/-- The half period of `SCK` in cycles of `clk` (R141). -/
def halfPeriod (p : Params) (hz : Word) : Nat := max 1 (ceilDiv (paramClkHz p) (2 * hz.toNat))

/-- The cycles of a wait of so many milliseconds (R148, R183). -/
def delayCycles (p : Params) (ms : Nat) : Nat := ceilDiv (ms * paramClkHz p) 1000

/-- The lines at one moment and for how long they stay so. `mosi` is none where its level is open (10_state.md R37). -/
structure Segment where
  csN : Bool
  dc : Bool
  rstN : Bool
  sck : Bool
  mosi : Option Bool
  cycles : Nat
deriving DecidableEq, Repr

/-- What the renderer carries from event to event: the levels between events and the clock rate. -/
structure Lines where
  csN : Bool
  dc : Bool
  rstN : Bool
  hz : Word
deriving DecidableEq, Repr

/-- The lines of a state. -/
def linesOf (s : State) : Lines := { csN := s.csN, dc := s.dc, rstN := s.rstN, hz := s.spiHz }

/-- The lines after block reset (R37, R341). -/
def resetLines (p : Params) : Lines := { csN := true, dc := true, rstN := true, hz := paramSpiHzDefault p }

/-- The lines held as they are, the serial lines idle. -/
def quiet (l : Lines) (cycles : Nat) : Segment :=
  { csN := l.csN, dc := l.dc, rstN := l.rstN, sck := false, mosi := none, cycles := cycles }

/-- One bit: half a period with `SCK` low, half a period with `SCK` high, which the panel samples (R142). -/
def bitSegments (l : Lines) (d : Bool) (half : Nat) (b : Bool) : List Segment :=
  [{ csN := l.csN, dc := d, rstN := l.rstN, sck := false, mosi := some b, cycles := half },
   { csN := l.csN, dc := d, rstN := l.rstN, sck := true, mosi := some b, cycles := half }]

/-- One byte: its bits, most significant first, and the hold time (R142, R145). -/
def byteSegments (l : Lines) (d : Bool) (half : Nat) (x : Byte) : List Segment :=
  (msbFirst x).flatMap (bitSegments l d half)
    ++ [{ csN := l.csN, dc := d, rstN := l.rstN, sck := false, mosi := some (x.getLsbD 0), cycles := half }]

/-- The lines after an event. A byte leaves `DC` high (R142). -/
def linesAfter (l : Lines) : Event → Lines
  | .cfg hz => { l with hz := hz }
  | .idle => { l with csN := true, dc := true, rstN := true }
  | .rst v => { l with rstN := v }
  | .csOn _ => { l with csN := false }
  | .csOff => { l with csN := true }
  | .cmd _ | .dat _ => { l with dc := true }
  | .cutByte _ _ => { l with csN := true, dc := true, rstN := true }
  | .delay _ | .poll _ => l

/-- The segments of an event, from the lines before it. -/
def segmentsOf (p : Params) (l : Lines) : Event → List Segment
  | .delay ms => [quiet l (delayCycles p ms)]
  | .csOn b => [quiet (linesAfter l (.csOn b)) (halfPeriod p l.hz)]
  | .csOff => [quiet (linesAfter l .csOff) (halfPeriod p l.hz)]
  | .cmd x => byteSegments l false (halfPeriod p l.hz) x
  | .dat x => byteSegments l true (halfPeriod p l.hz) x
  | .cutByte d bits => bits.flatMap (bitSegments l d (halfPeriod p l.hz))
  | .cfg _ | .idle | .rst _ | .poll _ => []

/-- The lines after a list of events. -/
def linesAfterAll (l : Lines) (evs : List Event) : Lines := evs.foldl linesAfter l

/-- The waveform of a list of events. -/
def waveform (p : Params) : Lines → List Event → List Segment
  | _, [] => []
  | l, e :: es => segmentsOf p l e ++ waveform p (linesAfter l e) es

/-- The levels of `DC` and `MOSI` that the panel samples while selected, on each rising edge of `SCK` (R141). -/
def sampledBits (segs : List Segment) : List (Bool × Option Bool) :=
  (segs.filter fun g => g.sck && !g.csN).map fun g => (g.dc, g.mosi)

/-- How long a waveform lasts, in cycles of `clk`. -/
def totalCycles (segs : List Segment) : Nat := (segs.map Segment.cycles).sum

end Sys2Proof.Machine
end

