-- ==== Sys2Proof/Safety.lean ====
section
/-! DEFINITION. What a safe state of the block is, in the terms that statements use: the framing discipline of the panel port, the
levels of its lines, the ranges of the counters, the canonical form of the buffer, and the host port between operations. -/

namespace Sys2Proof

open Sys2Proof.Machine

/-- The framing discipline (40_framer.md R146, R147), as an automaton over wire events: given whether a transaction is open, is
it open after the event? None where the discipline is broken: a byte outside a transaction, a transaction opened inside
one, an end with none open. `Idle` closes whatever is open (R149). -/
def frameStep (isOpen : Bool) : Event → Option Bool
  | .csOn _ => if isOpen then none else some true
  | .csOff => if isOpen then some false else none
  | .cmd _ | .dat _ | .cutByte _ _ => if isOpen then some true else none
  | .idle => some false
  | .cfg _ | .rst _ | .delay _ | .poll _ => some isOpen

/-- The automaton over a list of events. -/
def frameRun : Bool → List Event → Option Bool
  | isOpen, [] => some isOpen
  | isOpen, e :: es => (frameStep isOpen e).bind fun o => frameRun o es

/-- The events since the last block reset. -/
def eventsSinceReset (s : State) : List Event := s.trace.drop s.traceBase

/-- The trace since block reset obeys the framing discipline, and `txn_open` says whether a transaction is open at its end
(R36, R146, R147). -/
def framed (s : State) : Bool := decide (s.traceBase ≤ s.trace.length) && (frameRun false (eventsSinceReset s) == some s.txnOpen)

/-- The levels of the lines between operations: `cs_n = 1 - txn_open` and `dc = 1` (10_state.md R39), `RST_N` released and
`SCK` low. -/
def linesIdle (s : State) : Bool := (s.csN == !s.txnOpen) && s.dc && s.rstN && !s.sck

/-- The line registers are those that the events since block reset have left (R37, R38). -/
def linesAgree (s : State) : Bool :=
  decide (s.traceBase ≤ s.trace.length) && (linesAfterAll (resetLines s.cfg) (eventsSinceReset s) == linesOf s)

/-- `count <= THRESHOLD` (R40, R55). -/
def countBounded (s : State) : Bool := decide (s.count.toNat ≤ paramThreshold s.cfg)

/-- The buffer holds its canonical form, and no byte at an index of N or more (20_memory.md R70). -/
def bufSound (s : State) : Bool := memWf s.buf && s.buf.all fun c => decide (c.1 < bufBytes s.cfg)

/-- Between operations the sequencer holds no micro-state (R32), and the port is idle or shows a response (R34). -/
def portIdle (s : State) : Bool :=
  s.latched.isNone && (s.opReady == !s.rspValid) && !s.opTimeout && !s.opDone && !s.forced
    && decide (s.position = 0) && decide (s.loopCtr = 0)

/-- The busy sample that an event carries (00_scope.md R15). -/
def sampleOf : Event → Option Bool
  | .csOn b | .poll b => some b
  | .cfg _ | .idle | .rst _ | .delay _ | .csOff | .cmd _ | .dat _ | .cutByte _ _ => none

/-- The last sample on a list of events that begins at block reset; with none, the reset value 1 of `busy_last` (R48). -/
def lastSample (evs : List Event) : Bool := evs.foldl (fun b e => (sampleOf e).getD b) true

/-- `busy_last` is the most recent busy sample since block reset (R48). It need not be the level of `busy_sync`, which goes on with
every edge of `clk` (R47). -/
def busyRecorded (s : State) : Bool :=
  decide (s.traceBase ≤ s.trace.length) && (s.busyLast == lastSample (eventsSinceReset s))

/-- The serial rate is not 0 (40_framer.md R149, R151). -/
def rateNonzero (s : State) : Bool := s.spiHz != 0#32

/-- The invariant of the block between steps: R36, R146, R147 (framing), R37, R39 (lines), R40, R55 (count), R70 (buffer, in the
form of log 7), R32, R34 (port, with the micro-state of log 8 and the response as log 15 leaves it), R48 (busy_last) and
R149, R151 (rate). -/
def blockInv (s : State) : Bool :=
  framed s && linesIdle s && linesAgree s && countBounded s && bufSound s && portIdle s && busyRecorded s && rateNonzero s

/-! ### The vocabulary of the statements, from the spec's own tables -/

/-- A state with an operation's response on the host port and no micro-state left in the sequencer (10_state.md R32, R34;
60_exceptions.md R301, R303). -/
def respond (w : Word) (refused : Bool) (s : State) : State :=
  { s with
    latched := none, position := 0, loopCtr := 0, opTimeout := false, opDone := false, forced := false,
    opReady := false, rspValid := true, rspWord := w, rspRefused := refused }

/-- The next `n` busy samples read idle: a hypothesis about the panel (60_exceptions.md R322). -/
abbrev samplesIdle (n : Nat) (s : State) : Prop := ∀ k, k < n → s.sampleAt k = false

/-- The events that lie between two states of one run. -/
def newEvents (s t : State) : List Event := t.trace.drop s.trace.length

/-- `T{ ... }` with a start sample (00_scope.md R15). -/
def txnEvents (b : Bool) (bytes : List Event) : List Event := .csOn b :: bytes ++ [.csOff]

/-- The panel hard reset (40_framer.md R150, 95_test_vectors.md V4). -/
def hardResetEvents : List Event := [.rst false, .delay 40, .rst true, .delay 40]

/-- The bytes of the configuration block, in list order (41_sequencer.md R186). -/
def configEvents (p : Params) : List Event := p.configBlock.flatMap fun e => .cmd e.1 :: e.2.map .dat

/-- The whole-panel window and the pointer at its origin (R189). -/
def windowEvents (p : Params) : List Event :=
  txnEvents false [.cmd 0x44#8, .dat 0x00#8, .dat (lastXByte p), .cmd 0x45#8, .dat 0x00#8, .dat 0x00#8,
    .dat ((lastRow p).extractLsb' 0 8), .dat ((lastRow p).extractLsb' 8 8)]
  ++ txnEvents false [.cmd 0x4E#8, .dat 0x00#8, .cmd 0x4F#8, .dat 0x00#8, .dat 0x00#8]

/-- The bytes of a LUT load (R192). -/
def lutEvents (p : Params) (full : Bool) : List Event :=
  .cmd 0x32#8 :: (if full then p.lutFull else p.lutPart).toList.map .dat

/-- The wait after a power sequence where the panel is idle (R190, R191). -/
def powerWaitEvents (p : Params) : List Event := if p.powerSeqWait then [.poll false] else []

/-- `power_on_seq()` with an idle panel (R190). -/
def powerOnEvents (p : Params) : List Event :=
  txnEvents false [.cmd 0x22#8, .dat 0xC0#8, .cmd 0x20#8] ++ powerWaitEvents p

/-- `power_off_seq()` with an idle panel (R191). -/
def powerOffEvents (p : Params) : List Event :=
  txnEvents false [.cmd 0x22#8, .dat (paramPowerOffCtrl p), .cmd 0x20#8] ++ powerWaitEvents p

/-- `write_display_data()` with an idle panel: the wait, and the whole buffer in index order (R195). -/
def burstEvents (s : State) : List Event :=
  .poll false :: txnEvents false (.cmd 0x24#8 :: (List.range (bufBytes s.cfg)).map fun i => .dat (s.readByte i))

/-- The update activation of a mode (R193, R194). -/
def activationEvents (full : Bool) : List Event :=
  txnEvents false [.cmd 0x22#8, .dat (if full then 0xC4#8 else 0x04#8), .cmd 0x20#8, .cmd 0xFF#8]

/-- The entry sequence of a mode with an idle panel (42_engine.md R224). -/
def entryEvents (p : Params) (full : Bool) : List Event :=
  (if full then windowEvents p else []) ++ txnEvents false (lutEvents p full) ++ powerOnEvents p
    ++ (if p.powerOffAfterModeEntry then powerOffEvents p else [])

/-- A performed update with an idle panel (42_engine.md R226). -/
def updateEvents (s : State) : List Event :=
  (if s.cfg.syncMode then [] else [.poll false])
    ++ (if s.powerOn then [] else powerOnEvents s.cfg)
    ++ (if s.fullMode then [] else windowEvents s.cfg) ++ burstEvents s ++ activationEvents s.fullMode
    ++ (if s.fullMode then [] else windowEvents s.cfg ++ burstEvents s)
    ++ (if s.cfg.syncMode then [.poll false] else [])
    ++ (if s.cfg.powerOffAfterUpdate then powerOffEvents s.cfg else [])

/-- Every element at its value of 10_state.md R56, in an instance with parameters `p`: the lines, PanelState, the flags, the
synchronizer, the buffer at launch values (log 7), the sequencer idle (micro-state as log 8 has it) and the port idle. -/
def atResetValues (p : Params) (t : State) : Prop :=
  t.cfg = p ∧ t.txnOpen = false ∧ t.csN = true ∧ t.dc = true ∧ t.rstN = true ∧ t.sck = false ∧ t.mosi = false
    ∧ t.spiHz = paramSpiHzDefault p ∧ t.count = 0#8 ∧ t.initialized = false ∧ t.fullMode = true ∧ t.powerOn = false
    ∧ t.rotation = 0#2 ∧ t.status = 0#12 ∧ t.sync1 = true ∧ t.sync2 = true ∧ t.busyLast = true
    ∧ (∀ i, t.readByte i = Config.launchByte t.epoch i)
    ∧ t.latched = none ∧ t.position = 0 ∧ t.loopCtr = 0 ∧ t.opTimeout = false ∧ t.opDone = false ∧ t.forced = false
    ∧ t.opReady = true ∧ t.rspValid = false ∧ t.rspWord = 0#32 ∧ t.rspRefused = false

/-- The bits of a byte that have been clocked out when `n` of them have, most significant first; a byte cut short has at most
seven (40_framer.md R142, 70_reset_and_hazards.md R342). -/
def firstBits (x : Byte) (n : Nat) : List Bool := (List.range (min n 7)).map fun k => x.getLsbD (7 - k)

/-- How many busy samples a list of events carries. -/
def samplesIn (evs : List Event) : Nat := evs.countP fun e => (sampleOf e).isSome

/-- What no operation of the engine other than a pixel write touches: parameters, rate, rotation, every byte of the buffer, the
launch contents, what the agents will do, and the origin of the trace. -/
def engineFrame (s t : State) : Prop :=
  t.cfg = s.cfg ∧ t.spiHz = s.spiHz ∧ t.rotation = s.rotation ∧ (∀ a, t.readByte a = s.readByte a) ∧ t.epoch = s.epoch
    ∧ t.panel = s.panel ∧ t.agenda = s.agenda ∧ t.traceBase = s.traceBase

/-- The lines after an operation that has sent at least one byte and no panel reset (10_state.md R39). -/
def linesAtRest (s t : State) : Prop := t.csN = true ∧ t.dc = true ∧ t.sck = false ∧ t.rstN = s.rstN

/-- No flag has changed but those under a mask. -/
def flagsWithin (m : BitVec 12) (s t : State) : Prop := t.status &&& ~~~m = s.status &&& ~~~m

/-- PanelState (10_state.md R44). -/
def panelState (s : State) : BitVec 8 × Bool × Bool × Bool := (s.count, s.initialized, s.fullMode, s.powerOn)

/-- The commands by which the RAM window and pointer are programmed (20_memory.md R74). -/
def isWindowCommand (e : Event) : Bool := e == .cmd 0x44#8 || e == .cmd 0x45#8 || e == .cmd 0x4E#8 || e == .cmd 0x4F#8

/-- The raw framer operations (40_framer.md R159). -/
def isRawFramerOp : Instr → Bool
  | .txnStart | .txnEnd | .wcmd _ | .wdata _ | .wcmdT _ | .wdataT _ => true
  | .busReset | .busInit _ | .init | .initS _ | .enterFull | .enterPartial | .drawPixel _ _ _ | .fill _ => false
  | .update | .updatePf | .isBusy | .waitBusy | .setRotation _ | .getPixel _ _ | .readReg _ | .clearStatus _ => false
  | .wireActivation | .wireUpdateControl | .wirePixelData | .wireWriteLut | .wireSetRamX => false
  | .wireSetRamY | .wireSetRamXCounter | .wireSetRamYCounter | .wireNopTerminator => false

/-- The one refusal check of each host operation (60_exceptions.md R304), as the bit of `status` that it sets; none where the
operation is not refused in the state. -/
def refusalBit (i : Instr) (s : State) : Option (BitVec 12) :=
  match i with
  | .busInit f => if f = 0#32 then some 0x080#12 else none
  | .readReg n => if 7 ≤ n.toNat then some 0x080#12 else none
  | .txnStart | .wcmdT _ | .wdataT _ | .enterFull | .enterPartial | .update | .updatePf => if s.txnOpen then some 0x002#12 else none
  | .txnEnd => if s.txnOpen then none else some 0x004#12
  | .wcmd _ | .wdata _ => if s.txnOpen then none else some 0x001#12
  | .busReset | .init | .initS _ | .drawPixel _ _ _ | .fill _ | .isBusy | .waitBusy | .setRotation _ | .getPixel _ _ => none
  | .clearStatus _ | .wireActivation | .wireUpdateControl | .wirePixelData | .wireWriteLut | .wireSetRamX => none
  | .wireSetRamY | .wireSetRamXCounter | .wireSetRamYCounter | .wireNopTerminator => none

/-- The byte of a wire command (30_encoding.md R117). -/
def wireCommandByte : Instr → Option Byte
  | .wireActivation => some 0x20#8
  | .wireUpdateControl => some 0x22#8
  | .wirePixelData => some 0x24#8
  | .wireWriteLut => some 0x32#8
  | .wireSetRamX => some 0x44#8
  | .wireSetRamY => some 0x45#8
  | .wireSetRamXCounter => some 0x4E#8
  | .wireSetRamYCounter => some 0x4F#8
  | .wireNopTerminator => some 0xFF#8
  | .busReset | .busInit _ | .txnStart | .txnEnd | .wcmd _ | .wdata _ | .wcmdT _ | .wdataT _ => none
  | .init | .initS _ | .enterFull | .enterPartial | .drawPixel _ _ _ | .fill _ | .update | .updatePf => none
  | .isBusy | .waitBusy | .setRotation _ | .getPixel _ _ | .readReg _ | .clearStatus _ => none

/-- `k` polls that read busy, each followed by its delay (41_sequencer.md R184). -/
def busyPolls (k : Nat) : List Event := (List.replicate k [Event.poll true, Event.delay 5]).flatten

/-- A transaction's opening. -/
def isTxnOpening : Event → Bool
  | .csOn _ => true
  | .cfg _ | .idle | .rst _ | .delay _ | .csOff | .cmd _ | .dat _ | .poll _ | .cutByte _ _ => false

/-- A recorded busy sample. -/
def isPoll : Event → Bool
  | .poll _ => true
  | .cfg _ | .idle | .rst _ | .delay _ | .csOn _ | .csOff | .cmd _ | .dat _ | .cutByte _ _ => false

/-- The milliseconds that an event waits. -/
def delayOf : Event → Nat
  | .delay ms => ms
  | .cfg _ | .idle | .rst _ | .csOn _ | .csOff | .cmd _ | .dat _ | .poll _ | .cutByte _ _ => 0

/-- The command bytes of 30_encoding.md R117 and of the configuration block (R119). -/
def knownCommand (p : Params) (x : Byte) : Bool :=
  [0x20#8, 0x22#8, 0x24#8, 0x32#8, 0x44#8, 0x45#8, 0x4E#8, 0x4F#8, 0xFF#8].contains x
    || (p.configBlock.map Prod.fst).contains x

/-- Operations one after another, each from the state that the one before it left. None where one gives no next state. -/
def execAll : List Instr → State → Option State
  | [], s => some s
  | i :: is, s =>
    match exec i s with
    | .next t => execAll is t
    | .fault _ => none
    | .refused _ => none

end Sys2Proof
end

