-- ==== Sys2Proof/Certificates/Slice0/Obligations.lean ====
section
/-! DEFINITION. The statements about the block, from the numbered rules of the spec. `log <n>` in a docstring names the entry of the
assumption log that a clause rests on; such a clause is the model's choice, not a rule of the spec. -/

open Sys2Proof Sys2Proof.Machine

/-! ### Reset and the host port -/

/-- R56: the value of every element after block reset. The pixel buffer reads as the launch byte at every index, a constant of
which nothing is known ("unspecified (any value)"). -/
def Obligations.BlockResetValues : Prop :=
  let s := State.reset
  s.txnOpen = false ∧ s.csN = true ∧ s.dc = true ∧ s.rstN = true ∧ s.sck = false ∧ s.mosi = false
    ∧ s.spiHz = paramSpiHzDefault Config.params ∧ s.count = 0#8 ∧ s.initialized = false ∧ s.fullMode = true
    ∧ s.powerOn = false ∧ s.rotation = 0#2 ∧ s.status = 0#12 ∧ s.sync1 = true ∧ s.sync2 = true ∧ s.busyLast = true
    ∧ (∀ i, s.readByte i = Config.launchByte 0 i) ∧ s.latched = none ∧ s.position = 0 ∧ s.loopCtr = 0
    ∧ s.opReady = true ∧ s.rspValid = false ∧ s.rspWord = 0#32 ∧ s.rspRefused = false

/-- The invariant of the block holds at reset: framing (R36, R146, R147), lines (R37, R39), count (R40, R55), buffer (R70, in the
form of log 7), port and sequencer (R32, R34, in the form of log 8 and 15), `busy_last` (R48) and rate (R149, R151). -/
def Obligations.ResetMeetsInvariant : Prop := blockInv State.reset = true

/-- R56, R340, R341: a step that takes a block reset from the agenda gives every element its reset value and emits no event. The
parameters stay (R57). That the trace and what the agents will do stay, and that the buffer lists nothing and gets new launch
values, is the model's form (log 7, 9, 12). -/
def Obligations.BlockResetStep : Prop :=
  ∀ (s : State) (rest : List Request), s.agenda = .blockReset :: rest →
    ∃ t, step s = .next t ∧ atResetValues s.cfg t ∧ t.trace = s.trace ∧ t.agenda = rest ∧ t.buf = [] ∧ t.epoch = s.epoch + 1

/-- R342: an operation that block reset interrupts is abandoned. From the state `s` the reset strikes the operation that would
have led to `t`: no response, every element at its reset value, and on the wires the operation's first events. If the next of
its events is a byte, the panel has seen the first bits of that byte at that byte's level of `DC`, at most seven, and of any
other event nothing. Where the reset strikes is the entry's choice (log 9). -/
def Obligations.BlockResetAbandonsOperation : Prop :=
  ∀ (s : State) (w : OpWord) (cut : Cut) (rest : List Request), s.agenda = .blockResetDuring w cut :: rest →
    ∃ t u tail, step { s with agenda := .present (.op w) :: rest } = .next t ∧ step s = .next u ∧ atResetValues s.cfg u
      ∧ u.agenda = rest ∧ u.buf = [] ∧ u.epoch = s.epoch + 1
      ∧ u.trace = s.trace ++ (newEvents s t).take cut.events ++ tail
      ∧ (∀ x, (newEvents s t)[cut.events]? = some (.cmd x) →
          tail = if cut.bits = 0 then [] else [.cutByte false (firstBits x cut.bits)])
      ∧ (∀ x, (newEvents s t)[cut.events]? = some (.dat x) →
          tail = if cut.bits = 0 then [] else [.cutByte true (firstBits x cut.bits)])
      ∧ ((∀ x, (newEvents s t)[cut.events]? ≠ some (.cmd x) ∧ (newEvents s t)[cut.events]? ≠ some (.dat x)) → tail = [])

/-- R34, R343: with nothing on the agenda a step takes a response off the port and leaves the sequencer idle; nothing runs on
its own. The synchronizer goes on with the clock (R47), at open levels of `BUSY` (log 5). -/
def Obligations.IdleStepTakesResponse : Prop :=
  ∀ s : State, s.agenda = [] → step s = .next
    { s with
      rspValid := false, opReady := true,
      sync1 := Config.busyLevel (s.levelIx + 1), sync2 := Config.busyLevel s.levelIx, levelIx := s.levelIx + 2 }

/-- R34, R113: the step that takes a legal word runs its instruction, from the state in which an op word is latched and
`op_ready` is 0. A wire byte goes to the framer without the handshake (log 11). Around the instruction a step does one thing
more: the synchronizer goes on with the clock (R47), at open levels of `BUSY` (log 5). -/
def Obligations.StepRunsDecodedInstruction : Prop :=
  (∀ (s : State) (rest : List Request) (i : Instr),
    (∀ w, s.agenda = .present (.op w) :: rest → decode (.op w) = .ok i →
      step s = clockedOn (exec i { s with agenda := rest, rspValid := false, opReady := false, latched := some w }))
    ∧ (∀ b, s.agenda = .present (.wire b) :: rest → decode (.wire b) = .ok i →
      step s = clockedOn (exec i { s with agenda := rest, rspValid := false, opReady := true })))
  ∧ ∀ t : State, clockedOn (.next t) = .next
      { t with sync1 := Config.busyLevel (t.levelIx + 1), sync2 := Config.busyLevel t.levelIx, levelIx := t.levelIx + 2 }

/-- R113, R282: an illegal op word sets `ERR_ILLEGAL_OP`, answers 0 with `rsp_refused = 1`, and does nothing else. (The
synchronizer goes on with the clock, as in every step: R47, log 5.) -/
def Obligations.IllegalOpWordIsRefused : Prop :=
  ∀ (s : State) (rest : List Request) (w : OpWord) (e : DecodeError),
    s.agenda = .present (.op w) :: rest → decode (.op w) = .error e →
      step s = .next (respond 0#32 true
        { s with
          agenda := rest, status := s.status ||| 0x080#12,
          sync1 := Config.busyLevel (s.levelIx + 1), sync2 := Config.busyLevel s.levelIx, levelIx := s.levelIx + 2 })

/-- R305: no operation traps or halts: every instruction, in every state, ends in a next state; and a step stops only where the
agenda hands the framer a wire byte that is no command of R117 (log 11). -/
def Obligations.NeverHalts : Prop :=
  (∀ i s, ∃ t, exec i s = .next t)
    ∧ ∀ s, (∃ t, step s = .next t)
      ∨ ∃ b rest, s.agenda = .present (.wire b) :: rest ∧ step s = .refused (.notWireCommand b) ∧ ∀ i, decode (.wire b) ≠ .ok i

/-- R34, R303: every host operation ends with one response on the port, the sequencer's micro-state gone. -/
def Obligations.EveryOperationResponds : Prop :=
  ∀ i s t, i.isHostOp = true → exec i s = .next t →
    t.rspValid = true ∧ t.opReady = false ∧ t.latched = none ∧ t.position = 0 ∧ t.loopCtr = 0
      ∧ t.opTimeout = false ∧ t.opDone = false ∧ t.forced = false

/-! ### Encoding -/

/-- R100 to R111: decoding the word of a well-formed instruction gives it back, whatever its operands. -/
def Obligations.DecodeInvertsEncode : Prop := ∀ i : Instr, i.wellFormed = true → decode (encode i) = .ok i

/-- R100, R101, R113: a word that decodes is the word of the instruction it decodes to, so every legal word has one reading, and
what it decodes to is well formed. -/
def Obligations.LegalWordsAreEncodings : Prop :=
  ∀ (c : CodeWord) (i : Instr), decode c = .ok i → encode i = c ∧ i.wellFormed = true

/-- R112, R114: an op word whose opcode is none of the 21 assigned ones is rejected, by that name. -/
def Obligations.UnassignedOpcodesAreRejected : Prop :=
  ∀ w : OpWord,
    (w >>> 56).toNat ∉ [0x01, 0x02, 0x03, 0x04, 0x05, 0x06, 0x07, 0x08, 0x10, 0x11, 0x12, 0x13, 0x14, 0x15, 0x16, 0x17, 0x18,
      0x19, 0x1A, 0x1B, 0x1C] →
    decode (.op w) = .error (.unassignedOpcode (w.extractLsb' 56 8))

/-- R115 and vectors V8 and V9: words written out by hand from the encoding. -/
def Obligations.SampleWordsDecode : Prop :=
  decode (.op 0x0500000000000022#64) = .ok (.wcmd 0x22#8)
    ∧ decode (.op 0x02000000003D0900#64) = .ok (.busInit 4000000#32)
    ∧ decode (.op 0x1000000100000302#64) = .ok (.initS 0x302#32)
    ∧ decode (.op 0x1300FFFF0000FFFF#64) = .ok (.drawPixel 0xFFFF#16 0#16 0xFFFF#16)
    ∧ decode (.op 0x1B00000000000001#64) = .ok (.readReg 1#8)
    ∧ decode (.wire 0x4E#8) = .ok .wireSetRamXCounter
    ∧ decode (.op 0x1000000100000008#64) = .error (.reservedBits 0x10#8)

/-! ### The bus transaction framer -/

/-- R150, R152: `BUS_RESET` pulses `RST_N` with its two delays and clears `initialized` and `power_on`; nothing else changes, an
open transaction included. -/
def Obligations.BusResetPulsesPanelReset : Prop :=
  ∀ s : State, exec .busReset s = .next (respond 0#32 false
    { s with rstN := true, initialized := false, powerOn := false, trace := s.trace ++ hardResetEvents })

/-- R149, R150, R151: `BUS_INIT f` with `f` not 0 sets the rate, drives the idle levels, which close an open transaction with
`ERR_TXN_ABANDONED`, and hard-resets the panel; `BUS_INIT 0` is refused. -/
def Obligations.BusInitConfiguresAndResets : Prop :=
  ∀ (f : Word) (s : State),
    (f ≠ 0#32 → exec (.busInit f) s = .next (respond 0#32 false
      { s with
        spiHz := f, txnOpen := false, csN := true, dc := true, rstN := true, sck := false,
        initialized := false, powerOn := false,
        status := if s.txnOpen then s.status ||| 0x400#12 else s.status,
        trace := s.trace ++ ([.cfg f, .idle] ++ hardResetEvents) }))
    ∧ (f = 0#32 → exec (.busInit f) s = .next (respond 0#32 true { s with status := s.status ||| 0x080#12 }))

/-- R143, R144, R153, R154: `TXN_START` opens a transaction with its busy sample and `TXN_END` closes it. The first synchronizer
stage is open after a sample (log 5). -/
def Obligations.TransactionOpensAndCloses : Prop :=
  ∀ s : State,
    (s.txnOpen = false → exec .txnStart s = .next (respond 0#32 false
      { s with
        txnOpen := true, csN := false, busyLast := s.sampleAt 0, sync2 := s.sampleAt 0,
        sync1 := Config.syncStage s.drawIx, drawIx := s.drawIx + 1,
        status := if s.sampleAt 0 then s.status ||| 0x200#12 else s.status,
        trace := s.trace ++ [.csOn (s.sampleAt 0)] }))
    ∧ (s.txnOpen = true → exec .txnEnd s = .next (respond 0#32 false
      { s with txnOpen := false, csN := true, trace := s.trace ++ [.csOff] }))

/-- R142, R155, R156: inside a transaction `WCMD` and `WDATA` shift their byte, leaving `DC` high and `SCK` low; the level of
`MOSI` afterwards is open (log 6). -/
def Obligations.ByteWritesInsideTransaction : Prop :=
  ∀ (b : Byte) (s : State), s.txnOpen = true →
    exec (.wcmd b) s = .next (respond 0#32 false
      { s with dc := true, sck := false, mosi := Config.mosiIdle s.freeIx, freeIx := s.freeIx + 1, trace := s.trace ++ [.cmd b] })
    ∧ exec (.wdata b) s = .next (respond 0#32 false
      { s with dc := true, sck := false, mosi := Config.mosiIdle s.freeIx, freeIx := s.freeIx + 1, trace := s.trace ++ [.dat b] })

/-- R157, R158: outside a transaction `WCMD_T` and `WDATA_T` send their byte in a transaction of its own (log 5, 6). -/
def Obligations.OneByteTransactions : Prop :=
  ∀ (b : Byte) (s : State), s.txnOpen = false →
    exec (.wcmdT b) s = .next (respond 0#32 false
      { s with
        csN := true, dc := true, sck := false, mosi := Config.mosiIdle s.freeIx, freeIx := s.freeIx + 1,
        busyLast := s.sampleAt 0, sync2 := s.sampleAt 0, sync1 := Config.syncStage s.drawIx, drawIx := s.drawIx + 1,
        status := if s.sampleAt 0 then s.status ||| 0x200#12 else s.status,
        trace := s.trace ++ txnEvents (s.sampleAt 0) [.cmd b] })
    ∧ exec (.wdataT b) s = .next (respond 0#32 false
      { s with
        csN := true, dc := true, sck := false, mosi := Config.mosiIdle s.freeIx, freeIx := s.freeIx + 1,
        busyLast := s.sampleAt 0, sync2 := s.sampleAt 0, sync1 := Config.syncStage s.drawIx, drawIx := s.drawIx + 1,
        status := if s.sampleAt 0 then s.status ||| 0x200#12 else s.status,
        trace := s.trace ++ txnEvents (s.sampleAt 0) [.dat b] })

/-- R160: with no transaction open, `WCMD_T b` and `TXN_START`, `WCMD b`, `TXN_END` lead to the same state by the same events,
and so do `WDATA_T b` and its sequence. With one open they differ: the one-byte form is refused, while the sequence raises
the same flag, sends the byte inside the open transaction and closes it. -/
def Obligations.OneByteFormsMatchSequences : Prop :=
  ∀ (b : Byte) (s : State),
    (s.txnOpen = false → ∃ t,
      exec (.wcmdT b) s = .next t ∧ execAll [.txnStart, .wcmd b, .txnEnd] s = some t)
    ∧ (s.txnOpen = false → ∃ t,
      exec (.wdataT b) s = .next t ∧ execAll [.txnStart, .wdata b, .txnEnd] s = some t)
    ∧ (s.txnOpen = true → ∃ t u v,
      exec (.wcmdT b) s = .next t ∧ t.trace = s.trace ∧ t.txnOpen = true ∧ t.status = s.status ||| 0x002#12 ∧ t.rspRefused = true
      ∧ execAll [.txnStart, .wcmd b, .txnEnd] s = some u ∧ u.trace = s.trace ++ [.cmd b, .csOff] ∧ u.txnOpen = false
      ∧ u.status = s.status ||| 0x002#12
      ∧ exec (.wdataT b) s = .next t
      ∧ execAll [.txnStart, .wdata b, .txnEnd] s = some v ∧ v.trace = s.trace ++ [.dat b, .csOff] ∧ v.txnOpen = false
      ∧ v.status = s.status ||| 0x002#12)

/-- R159: the raw framer operations change no PanelState field, no rotation and no buffer byte. -/
def Obligations.RawFramerKeepsPanelState : Prop :=
  ∀ i s t, isRawFramerOp i = true → exec i s = .next t →
    panelState t = panelState s ∧ t.rotation = s.rotation ∧ (∀ a, t.readByte a = s.readByte a) ∧ t.spiHz = s.spiHz ∧ t.cfg = s.cfg

/-! ### Refusals and flags -/

/-- R147, R220, R301, R304: the refusal checks of the host operations, and what a refused operation does: it sets its one flag
and answers 0 with `rsp_refused = 1`; no event, no sample, no other change. An operation whose check passes is not refused. -/
def Obligations.RefusedOperationsDoNothingElse : Prop :=
  ∀ i s t, i.isHostOp = true → exec i s = .next t →
    (∀ m, refusalBit i s = some m → t = respond 0#32 true { s with status := s.status ||| m })
    ∧ (refusalBit i s = none → t.rspRefused = false)

/-- R46, R302: flags are sticky: only `CLEAR_STATUS` clears a flag. -/
def Obligations.FlagsAreSticky : Prop :=
  ∀ i s t, (∀ m, i ≠ .clearStatus m) → exec i s = .next t → s.status &&& ~~~t.status = 0#12

/-- R281: `CLEAR_STATUS m` clears the flags under its mask; the live bits and everything else stay. -/
def Obligations.ClearStatusClearsMaskedFlags : Prop :=
  ∀ (m : BitVec 12) (s : State), exec (.clearStatus m) s = .next (respond 0#32 false { s with status := s.status &&& ~~~m })

/-! ### The wire layer -/

/-- R116, R117, R142, R146: inside a transaction each of the nine wire commands shifts its byte with `DC = 0`, which is then high;
the host port shows no response. Outside one no byte is shifted; that `ERR_NO_TXN` reports it, and the port's silence, are the
model's choice (log 11). -/
def Obligations.WireCommandsShiftTheirByte : Prop :=
  ∀ (i : Instr) (b : Byte) (s : State), wireCommandByte i = some b →
    (s.txnOpen = true → exec i s = .next
      { s with
        dc := true, sck := false, mosi := Config.mosiIdle s.freeIx, freeIx := s.freeIx + 1, trace := s.trace ++ [.cmd b],
        latched := none, position := 0, loopCtr := 0, opTimeout := false, opDone := false, forced := false })
    ∧ (s.txnOpen = false → exec i s = .next { s with status := s.status ||| 0x001#12 })

/-- R120: except through `WCMD` and `WCMD_T`, every command byte on the wires is one of R117 or of the configuration block. -/
def Obligations.OnlyKnownCommandsAreSent : Prop :=
  ∀ i s t, (∀ b, i ≠ .wcmd b) → (∀ b, i ≠ .wcmdT b) → exec i s = .next t →
    ∀ x, .cmd x ∈ newEvents s t → knownCommand s.cfg x = true

/-- R116, R141, R142, R145, R360: a byte on the lines while the panel is selected: the panel samples its bits most significant
first, a command byte with `DC = 0` and a data byte with `DC = 1` throughout; eight periods of `SCK` and the hold time, at the
half period of the rate. `shift` is given the same levels. (The drawing of the hold as half a period: log 13.) -/
def Obligations.BytesGoOutMostSignificantFirst : Prop :=
  ∀ (p : Params) (l : Lines) (x : Byte), l.csN = false →
    sampledBits (segmentsOf p l (.cmd x)) = (List.range 8).map (fun k => (false, some (x.getLsbD (7 - k))))
      ∧ sampledBits (segmentsOf p l (.dat x)) = (List.range 8).map (fun k => (true, some (x.getLsbD (7 - k))))
      ∧ (∀ g ∈ segmentsOf p l (.cmd x), g.dc = false ∧ g.csN = false)
      ∧ (∀ g ∈ segmentsOf p l (.dat x), g.dc = true ∧ g.csN = false)
      ∧ totalCycles (segmentsOf p l (.cmd x)) = 16 * halfPeriod p l.hz + halfPeriod p l.hz
      ∧ totalCycles (segmentsOf p l (.dat x)) = 16 * halfPeriod p l.hz + halfPeriod p l.hz
      ∧ wireDc (.cmd x) = false ∧ wireDc (.dat x) = true

/-- R141: the resulting serial rate `CLK_HZ / (2 * half)` never exceeds `spi_hz`, and `half` is the least such half period. -/
def Obligations.HalfPeriodBoundsRate : Prop :=
  ∀ (p : Params) (hz : Word), hz ≠ 0#32 →
    1 ≤ halfPeriod p hz ∧ paramClkHz p ≤ 2 * halfPeriod p hz * hz.toNat
      ∧ ∀ k, 1 ≤ k → paramClkHz p ≤ 2 * k * hz.toNat → halfPeriod p hz ≤ k

/-! ### The engine -/

/-- R186, R221: `INIT`: rate and idle levels, panel hard reset, and the configuration block as one transaction. PanelState keeps
mode and count; an open transaction is abandoned with its flag. -/
def Obligations.InitSendsConfiguration : Prop :=
  ∀ s : State, ∃ t, exec .init s = .next t ∧ engineFrame s t
    ∧ t.trace = s.trace ++ ([.cfg s.spiHz, .idle] ++ hardResetEvents ++ txnEvents (s.sampleAt 0) (configEvents s.cfg))
    ∧ panelState t = (s.count, false, s.fullMode, false)
    ∧ t.status = (if s.txnOpen then s.status ||| 0x400#12 else s.status) ||| (if s.sampleAt 0 then 0x200#12 else 0#12)
    ∧ t.txnOpen = false ∧ t.csN = true ∧ t.dc = true ∧ t.rstN = true ∧ t.sck = false
    ∧ t.busyLast = s.sampleAt 0 ∧ t.drawIx = s.drawIx + 1
    ∧ t.rspValid = true ∧ t.rspWord = 0#32 ∧ t.rspRefused = false

/-- R222: `INIT s` does what `INIT` does and then takes mode, power and count from the snapshot, the count clamped to `THRESHOLD`
with `ERR_RESTORE`; `initialized` is 0. -/
def Obligations.InitRestoresSnapshot : Prop :=
  ∀ (snap : Word) (s : State), ∃ t u, exec .init s = .next u ∧ exec (.initS snap) s = .next t ∧ t.initialized = false
    ∧ t = { u with
        fullMode := snap.getLsbD 1, powerOn := snap.getLsbD 2,
        count := BitVec.ofNat 8 (min (snap.extractLsb' 8 8).toNat (paramThreshold s.cfg)),
        status := if paramThreshold s.cfg < (snap.extractLsb' 8 8).toNat then u.status ||| 0x800#12 else u.status }

/-- R53, R280, R345: the `STATE` register is a legal snapshot, and `INIT` with it restores mode, power and count in any state of
the same instance. -/
def Obligations.SnapshotRoundTrip : Prop :=
  ∀ s s' : State, s'.cfg = s.cfg → countBounded s = true →
    (Instr.initS (stateRegister s)).wellFormed = true
    ∧ ∃ t, exec (.initS (stateRegister s)) s' = .next t ∧ panelState t = (s.count, false, s.fullMode, s.powerOn)

/-- R224, R231: a mode entry in that mode and initialized emits nothing and changes nothing but the response, which is 0. -/
def Obligations.ModeEntryIsIdempotent : Prop :=
  ∀ (f : Bool) (s : State), s.txnOpen = false → s.fullMode = f → s.initialized = true →
    exec (if f then .enterFull else .enterPartial) s = .next (respond 0#32 false s)

/-- R231: a mode entry issued directly after another of the same mode emits no event and changes no state. -/
def Obligations.SecondModeEntryIsNoOp : Prop :=
  ∀ (f : Bool) (s t : State), s.txnOpen = false → exec (if f then .enterFull else .enterPartial) s = .next t →
    exec (if f then .enterFull else .enterPartial) t = .next (respond 0#32 false t)

/-- R189 to R192, R223 to R225: the events of a mode entry that is not the no-op, where the panel is idle for its (at most seven)
samples, and the state it leaves. -/
def Obligations.ModeEntryEvents : Prop :=
  ∀ (f : Bool) (s : State), s.txnOpen = false → (s.fullMode = f → s.initialized = false) → samplesIdle 7 s →
    ∃ t, exec (if f then .enterFull else .enterPartial) s = .next t ∧ engineFrame s t ∧ linesAtRest s t
      ∧ t.trace = s.trace ++ entryEvents s.cfg f
      ∧ panelState t = (s.count, true, f, !s.cfg.powerOffAfterModeEntry)
      ∧ t.status = (if s.powerOn then s.status ||| 0x010#12 else s.status)
      ∧ t.busyLast = false ∧ t.drawIx = s.drawIx + samplesIn (entryEvents s.cfg f)
      ∧ t.txnOpen = false ∧ t.rspValid = true ∧ t.rspWord = 1#32 ∧ t.rspRefused = false

/-- R223 to R225, R303, R309: whatever the panel answers, a mode entry that is not the no-op ends in its mode, initialized, with
`DONE`; `TIMEOUT` comes with its flag. No flag changes but `ERR_POWER_STATE`, `WAIT_TIMEOUT` and `HAZ_CMD_WHILE_BUSY`. -/
def Obligations.ModeEntryCompletesWhateverThePanel : Prop :=
  ∀ (f : Bool) (s : State), s.txnOpen = false → (s.fullMode = f → s.initialized = false) →
    ∃ t, exec (if f then .enterFull else .enterPartial) s = .next t ∧ engineFrame s t ∧ linesAtRest s t ∧ flagsWithin 0x230#12 s t
      ∧ panelState t = (s.count, true, f, !s.cfg.powerOffAfterModeEntry) ∧ t.txnOpen = false
      ∧ (t.rspWord = 1#32 ∨ (t.rspWord = 3#32 ∧ t.status &&& 0x020#12 = 0x020#12)) ∧ t.rspRefused = false

/-- R193 to R195, R226, R227: the events of an update with an idle panel, in the order of `do_update()`, and the state it leaves:
the whole buffer is sent as it stands, twice in partial mode; `busy_last` (R48) and the number of samples drawn included. -/
def Obligations.UpdateEvents : Prop :=
  ∀ s : State, s.txnOpen = false → samplesIdle 15 s →
    ∃ t, exec .update s = .next t ∧ engineFrame s t ∧ linesAtRest s t
      ∧ t.trace = s.trace ++ updateEvents s
      ∧ panelState t = (s.count, s.initialized, s.fullMode, !s.cfg.powerOffAfterUpdate)
      ∧ t.status = (if s.initialized then s.status else s.status ||| 0x100#12)
      ∧ t.busyLast = false ∧ t.drawIx = s.drawIx + samplesIn (updateEvents s)
      ∧ t.txnOpen = false ∧ t.rspValid = true ∧ t.rspWord = 1#32 ∧ t.rspRefused = false

/-- R226, R227, R309: whatever the panel answers after the drop check, an update is performed to its end. No flag changes but
`ERR_POWER_STATE`, `WAIT_TIMEOUT`, `ERR_NOT_INIT` and `HAZ_CMD_WHILE_BUSY`. -/
def Obligations.UpdateCompletesWhateverThePanel : Prop :=
  ∀ s : State, s.txnOpen = false → (s.cfg.syncMode = false → s.sampleAt 0 = false) →
    ∃ t, exec .update s = .next t ∧ engineFrame s t ∧ linesAtRest s t ∧ flagsWithin 0x330#12 s t
      ∧ panelState t = (s.count, s.initialized, s.fullMode, !s.cfg.powerOffAfterUpdate) ∧ t.txnOpen = false
      ∧ (t.rspWord = 1#32 ∨ (t.rspWord = 3#32 ∧ t.status &&& 0x020#12 = 0x020#12)) ∧ t.rspRefused = false

/-- R226, R227, R353: an asynchronous update that finds the panel busy is dropped: one poll, `UPDATE_DROPPED`, the answer 0, and
nothing else (log 5 for the first synchronizer stage). -/
def Obligations.BusyAsynchronousUpdateIsDropped : Prop :=
  ∀ s : State, s.txnOpen = false → s.cfg.syncMode = false → s.sampleAt 0 = true →
    exec .update s = .next (respond 0#32 false
      { s with
        sync1 := Config.syncStage s.drawIx, sync2 := true, busyLast := true, drawIx := s.drawIx + 1,
        status := s.status ||| 0x040#12, trace := s.trace ++ [.poll true] })

/-- R232: the transactions of one performed synchronous update of a powered panel, without the power-off policy: two in full
mode, with one pixel burst and no window command; seven in partial mode, with two pixel bursts and two window-and-pointer pairs
(eight window commands); one activation in either. -/
def Obligations.UpdateTransactionCounts : Prop :=
  ∀ s : State, s.txnOpen = false → s.cfg.syncMode = true → s.powerOn = true → s.cfg.powerOffAfterUpdate = false →
    ∃ t, exec .update s = .next t
      ∧ (newEvents s t).countP isTxnOpening = (if s.fullMode then 2 else 7)
      ∧ (newEvents s t).count (.cmd 0x24#8) = (if s.fullMode then 1 else 2)
      ∧ (newEvents s t).count (.cmd 0x20#8) = 1
      ∧ (newEvents s t).countP isWindowCommand = (if s.fullMode then 0 else 8)

/-- R235: no full-mode update and no entry to partial mode programs the RAM window or its pointer. -/
def Obligations.FullModeKeepsTheWindow : Prop :=
  ∀ s t : State, (exec .update s = .next t ∧ s.fullMode = true) ∨ exec .enterPartial s = .next t →
    ∀ e ∈ newEvents s t, isWindowCommand e = false

/-- R228: below the threshold `UPDATE_PF` is `UPDATE` with the count one higher, a dropped update included. -/
def Obligations.UpdatePfBelowThreshold : Prop :=
  ∀ s : State, s.txnOpen = false → s.count.toNat + 1 < paramThreshold s.cfg →
    ∃ t u, exec .update s = .next u ∧ exec .updatePf s = .next t ∧ t = { u with count := s.count + 1#8 }

/-- R228: at the threshold `UPDATE_PF` runs the forced cycle: whatever the panel answers it ends in partial mode, initialized,
with the count 0 and `FORCED`; in synchronous mode with `DONE`. No flag changes but those of `do_update()` and `enter_mode()`. -/
def Obligations.UpdatePfForcesFullCycle : Prop :=
  ∀ s : State, s.txnOpen = false → paramThreshold s.cfg ≤ s.count.toNat + 1 →
    ∃ t, exec .updatePf s = .next t ∧ engineFrame s t ∧ linesAtRest s t ∧ flagsWithin 0x370#12 s t
      ∧ panelState t = (0#8, true, false, !s.cfg.powerOffAfterModeEntry) ∧ t.txnOpen = false
      ∧ t.rspWord.getLsbD 2 = true ∧ (s.cfg.syncMode = true → t.rspWord.getLsbD 0 = true) ∧ t.rspRefused = false

/-- R228 and vector V30: the events of the forced cycle with an idle panel: an update in the mode at entry, entry to full mode,
a busy wait, an update in full mode, entry to partial mode. -/
def Obligations.ForcedCycleEvents : Prop :=
  ∀ s : State, s.txnOpen = false → paramThreshold s.cfg ≤ s.count.toNat + 1 → samplesIdle 45 s →
    let enters := !(s.fullMode && s.initialized)
    let powered := if enters then !s.cfg.powerOffAfterModeEntry else !s.cfg.powerOffAfterUpdate
    ∃ t, exec .updatePf s = .next t
      ∧ t.trace = s.trace ++ (updateEvents s ++ (if enters then entryEvents s.cfg true else []) ++ [.poll false]
          ++ updateEvents { s with fullMode := true, powerOn := powered } ++ entryEvents s.cfg false)
      ∧ t.rspWord = 5#32

/-- R234: a run of `T` consecutive `UPDATE_PF` from partial mode, initialized, count 0, with `T` the threshold, whatever the
panel answers: the count goes up one by one with no LUT load, and operation `T` is the forced cycle, with exactly one load
of the full table and one of the partial table, which ends in partial mode, initialized, with the count 0. -/
def Obligations.GhostingPolicyCycle : Prop :=
  ∀ s : State, s.txnOpen = false → s.fullMode = false → s.initialized = true → s.count = 0#8 →
    (∀ k, k < paramThreshold s.cfg →
      ∃ t, execAll (List.replicate k .updatePf) s = some t ∧ t.txnOpen = false
        ∧ t.fullMode = false ∧ t.initialized = true ∧ t.count.toNat = k
        ∧ (newEvents s t).count (.cmd 0x32#8) = 0)
    ∧ ∃ t pre mid post, execAll (List.replicate (paramThreshold s.cfg) .updatePf) s = some t ∧ t.txnOpen = false
        ∧ t.fullMode = false ∧ t.initialized = true ∧ t.count = 0#8
        ∧ newEvents s t = pre ++ lutEvents s.cfg true ++ mid ++ lutEvents s.cfg false ++ post
        ∧ (pre ++ mid ++ post).count (.cmd 0x32#8) = 0

/-! ### The busy line -/

/-- R47, R180, R182, R229: `IS_BUSY` takes one sample, records it and answers it; it is allowed inside a transaction. The sample is
the level that the two stages of the synchronizer have passed on, one edge of the clock each; the level at the second edge, which
stays in the first stage, is open (log 5). -/
def Obligations.IsBusyAnswersSample : Prop :=
  (∀ s : State, exec .isBusy s = .next (respond (if s.sampleAt 0 then 1#32 else 0#32) false
    { s with
      sync1 := Config.syncStage s.drawIx, sync2 := s.sampleAt 0, busyLast := s.sampleAt 0, drawIx := s.drawIx + 1,
      trace := s.trace ++ [.poll (s.sampleAt 0)] }))
  ∧ (∀ (b : Bool) (s : State), s.clockEdge b = { s with sync1 := b, sync2 := s.sync1 })
  ∧ ∀ s : State, s.sample = (let t := (s.clockEdge (s.sampleAt 0)).clockEdge (Config.syncStage s.drawIx)
      { t with busyLast := t.sync2, drawIx := s.drawIx + 1 })

/-- R184, R185, R230: `WAIT_BUSY` polls every 5 ms until a sample reads idle, at most 400 times; it answers `DONE` or `TIMEOUT`
with its flag, and changes nothing else (log 5 for the first synchronizer stage). -/
def Obligations.WaitBusyIsBounded : Prop :=
  ∀ s : State,
    (∀ k, k < 400 → (∀ j, j < k → s.sampleAt j = true) → s.sampleAt k = false →
      exec .waitBusy s = .next (respond 1#32 false
        { s with
          sync1 := Config.syncStage (s.drawIx + k), sync2 := false, busyLast := false, drawIx := s.drawIx + (k + 1),
          trace := s.trace ++ (busyPolls k ++ [.poll false]) }))
    ∧ ((∀ j, j < 400 → s.sampleAt j = true) →
      exec .waitBusy s = .next (respond 2#32 false
        { s with
          sync1 := Config.syncStage (s.drawIx + 399), sync2 := true, busyLast := true, drawIx := s.drawIx + 400,
          status := s.status ||| 0x020#12, trace := s.trace ++ busyPolls 400 }))

/-- R10, R323: every operation is bounded, whatever the panel answers: at most 14 busy waits of 400 polls, and 14 times 2000 ms
of delays. -/
def Obligations.OperationsAreBounded : Prop :=
  ∀ i s t, exec i s = .next t →
    (newEvents s t).countP isPoll ≤ 14 * 400 ∧ ((newEvents s t).map delayOf).sum ≤ 14 * 2000

/-! ### Pixels -/

/-- R260: `SET_ROTATION` with a value below 4 sets the rotation and nothing else; a value of 4 or more raises `ERR_ROTATION`,
leaves the rotation, and is not refused. -/
def Obligations.SetRotationChecksItsValue : Prop :=
  ∀ (r : Byte) (s : State),
    (r.toNat < 4 → exec (.setRotation r) s = .next (respond 0#32 false { s with rotation := r.setWidth 2 }))
    ∧ (4 ≤ r.toNat → exec (.setRotation r) s = .next (respond 0#32 false { s with status := s.status ||| 0x008#12 }))

/-- R71, R262, R264, R267: an in-range `DRAW_PIXEL` sets or clears the pixel's one bit of its one byte and changes nothing else. The
physical pixel lies on the panel; its byte is `py * XB + px / 8` and its bit is `7 - px mod 8`, the leftmost pixel in the most
significant bit; and under the default `ROT_MAP` the physical pixel is that of R262's table, class by class (the table's values
are general knowledge and not the source's: PRESUMED, log 3). -/
def Obligations.DrawPixelWritesOneBit : Prop :=
  ∀ (x y c : Half) (s : State), inRange s.cfg s.rotation x y = true →
    let px := (physicalOf s.cfg s.rotation x y).1
    let py := (physicalOf s.cfg s.rotation x y).2
    let i := pixelIndex s.cfg s.rotation x y
    let m := pixelMask s.cfg s.rotation x y
    (px < paramW s.cfg ∧ py < paramH s.cfg ∧ i = py * ((paramW s.cfg + 7) / 8) + px / 8 ∧ m = BitVec.twoPow 8 (7 - px % 8))
    ∧ (s.cfg.rotMap = defaultRotMap → (px, py) =
        if s.rotation = 0#2 then (x.toInt.toNat, y.toInt.toNat)
        else if s.rotation = 1#2 then (paramW s.cfg - 1 - y.toInt.toNat, x.toInt.toNat)
        else if s.rotation = 2#2 then (paramW s.cfg - 1 - x.toInt.toNat, paramH s.cfg - 1 - y.toInt.toNat)
        else (y.toInt.toNat, paramH s.cfg - 1 - x.toInt.toNat))
    ∧ ∃ t, exec (.drawPixel x y c) s = .next t ∧ t = respond 0#32 false { s with buf := t.buf }
      ∧ t.readByte i = (if c = 0#16 then s.readByte i &&& ~~~m else s.readByte i ||| m)
      ∧ ∀ a, a ≠ i → t.readByte a = s.readByte a

/-- R264, R267: an out-of-range `DRAW_PIXEL` changes nothing and raises no flag. -/
def Obligations.OutOfRangeDrawIsIgnored : Prop :=
  ∀ (x y c : Half) (s : State),
    ¬(0 ≤ x.toInt ∧ x.toInt < logicalW s.cfg s.rotation ∧ 0 ≤ y.toInt ∧ y.toInt < logicalH s.cfg s.rotation) →
    exec (.drawPixel x y c) s = .next (respond 0#32 false s)

/-- R265: `FILL` gives every byte of the buffer the colour's low byte; nothing else changes. -/
def Obligations.FillWritesEveryByte : Prop :=
  ∀ (c : Half) (s : State),
    ∃ t, exec (.fill c) s = .next t ∧ t = respond 0#32 false { s with buf := t.buf }
      ∧ (∀ i, i < bufBytes s.cfg → t.readByte i = c.setWidth 8)
      ∧ ∀ i, bufBytes s.cfg ≤ i → t.readByte i = s.readByte i

/-- R266: `GET_PIXEL` answers the pixel's bit, or `OUT_OF_RANGE`, and has no side effect. -/
def Obligations.GetPixelReadsTheBit : Prop :=
  ∀ (x y : Half) (s : State),
    (inRange s.cfg s.rotation x y = true → exec (.getPixel x y) s = .next (respond
      (if s.readByte (pixelIndex s.cfg s.rotation x y) &&& pixelMask s.cfg s.rotation x y = 0#8 then 0#32 else 1#32) false s))
    ∧ (inRange s.cfg s.rotation x y = false → exec (.getPixel x y) s = .next (respond 0x100#32 false s))

/-- R267 (2): a pixel drawn reads back as the colour drawn, and a second drawing of the same pixel leaves the last colour. -/
def Obligations.DrawnPixelReadsBack : Prop :=
  ∀ (x y c d : Half) (s : State), inRange s.cfg s.rotation x y = true →
    ∃ t u, execAll [.drawPixel x y d, .drawPixel x y c, .getPixel x y] s = some t
      ∧ execAll [.drawPixel x y c, .getPixel x y] s = some u
      ∧ t.rspWord = (if c = 0#16 then 0#32 else 1#32) ∧ u.rspWord = t.rspWord ∧ ∀ a, t.readByte a = u.readByte a

/-- R267 (3): after `FILL WHITE`, one in-range `DRAW_PIXEL x, y, BLACK` changes exactly one bit of the buffer, the pixel's own: the
one bit of its mask in the byte at its index, and every other bit of the N bytes is still 1. -/
def Obligations.BlackOnWhiteChangesOneBit : Prop :=
  ∀ (x y : Half) (s : State), inRange s.cfg s.rotation x y = true →
    let i := pixelIndex s.cfg s.rotation x y
    let m := pixelMask s.cfg s.rotation x y
    ∃ t j, execAll [.fill 0xFFFF#16, .drawPixel x y 0x0000#16] s = some t ∧ i < bufBytes s.cfg ∧ j < 8 ∧ m = BitVec.twoPow 8 j
      ∧ ∀ a k, a < bufBytes s.cfg → k < 8 → ((t.readByte a).getLsbD k = false ↔ a = i ∧ k = j)

/-- R262, R267 (4), R283: in-range coordinates address bytes of the buffer by one-bit masks, and two different ones under the
same rotation address different bits, for every rotation map. (A table that is no bijection, which R262 does not admit, stands
for the default map of its class: the model's choice, log 3.) -/
def Obligations.PixelsHaveDistinctBits : Prop :=
  ∀ (p : Params) (r : BitVec 2) (x y x' y' : Half), inRange p r x y = true → inRange p r x' y' = true →
    pixelIndex p r x y < bufBytes p ∧ (∃ k, k < 8 ∧ pixelMask p r x y = BitVec.twoPow 8 k)
      ∧ (pixelIndex p r x y = pixelIndex p r x' y' → pixelMask p r x y = pixelMask p r x' y' → x = x' ∧ y = y')

/-! ### The register view -/

/-- R51 to R54, R280: `READ_REG` answers the register, bit by bit, and has no side effect; a reserved number is refused. -/
def Obligations.ReadRegisterView : Prop :=
  ∀ s : State,
    (∃ w, exec (.readReg 0#8) s = .next (respond w false s) ∧ w.extractLsb' 0 12 = s.status ∧ w.extractLsb' 12 4 = 0#4
      ∧ w.getLsbD 16 = s.txnOpen ∧ w.getLsbD 17 = s.busyLast ∧ w.extractLsb' 18 14 = 0#14)
    ∧ (∃ w, exec (.readReg 1#8) s = .next (respond w false s) ∧ w.getLsbD 0 = s.initialized ∧ w.getLsbD 1 = s.fullMode
      ∧ w.getLsbD 2 = s.powerOn ∧ w.extractLsb' 3 5 = 0#5 ∧ w.extractLsb' 8 8 = s.count ∧ w.extractLsb' 16 16 = 0#16)
    ∧ (∃ w, exec (.readReg 2#8) s = .next (respond w false s) ∧ w.getLsbD 0 = s.cfg.syncMode
      ∧ w.getLsbD 1 = s.cfg.powerOffAfterModeEntry ∧ w.getLsbD 2 = s.cfg.powerOffAfterUpdate ∧ w.getLsbD 3 = s.cfg.powerSeqWait
      ∧ w.extractLsb' 4 4 = 0#4 ∧ (w.extractLsb' 8 8).toNat = paramThreshold s.cfg
      ∧ w.extractLsb' 16 8 = paramPowerOffCtrl s.cfg ∧ w.extractLsb' 24 8 = 0x1E#8)
    ∧ (∃ w, exec (.readReg 3#8) s = .next (respond w false s) ∧ (w.extractLsb' 0 16).toNat = paramW s.cfg
      ∧ (w.extractLsb' 16 16).toNat = paramH s.cfg)
    ∧ (∃ w, exec (.readReg 4#8) s = .next (respond w false s) ∧ w = s.rotation.setWidth 32)
    ∧ exec (.readReg 5#8) s = .next (respond s.spiHz false s)
    ∧ (∃ w, exec (.readReg 6#8) s = .next (respond w false s) ∧ w.toNat = bufBytes s.cfg)
    ∧ ∀ n : Byte, 7 ≤ n.toNat → exec (.readReg n) s = .next (respond 0#32 true { s with status := s.status ||| 0x080#12 })

/-! ### Invariants of every step -/

/-- R36, R146, R147: every step keeps the framing discipline: since the last block reset no byte has been shifted outside a
transaction, no transaction was opened inside one, and `txn_open` says whether one is open. -/
def Obligations.StepKeepsFraming : Prop :=
  ∀ s t : State, framed s = true → step s = .next t → framed t = true

/-- R37, R39, R142: every step leaves the lines at their levels of R39, and at the levels that the events since block reset have
driven them to. -/
def Obligations.StepKeepsLineLevels : Prop :=
  ∀ s t : State, linesIdle s = true → linesAgree s = true → step s = .next t → linesIdle t = true ∧ linesAgree t = true

/-- R70, R283: every step keeps the buffer's canonical form and writes no byte at an index of N or more (the form is the model's,
log 7). -/
def Obligations.StepKeepsBufferSound : Prop :=
  ∀ s t : State, bufSound s = true → step s = .next t → bufSound t = true

/-- R57, R80: no step changes a configuration parameter, and no step takes back a wire event: the trace only grows. -/
def Obligations.StepKeepsParametersAndTrace : Prop :=
  ∀ s t : State, step s = .next t → t.cfg = s.cfg ∧ ∃ evs, t.trace = s.trace ++ evs

/-- The whole invariant of the block is kept by every step: framing (R36, R146, R147); lines (R37, R39); count (R40, R55); buffer
(R70, in the canonical form of log 7); port and sequencer (R32, R34: the micro-state fields of log 8, the response as log 15
leaves it); `busy_last` is the most recent busy sample since block reset (R48); the rate is not 0 (R149, R151). -/
def Obligations.StepKeepsBlockInvariant : Prop :=
  ∀ s t : State, blockInv s = true → step s = .next t → blockInv t = true
end

