-- ==== Sys2Proof/Laws/Decode.lean ====
section
/-! SUPPORT. What the fields of a concatenation are, and what the opcode field of an encoded word is. -/

namespace Sys2Proof

/-- A field that lies in the more significant part of a concatenation. -/
theorem extract_append_high {m n k : Nat} (a : BitVec m) (b : BitVec n) (i : Nat) (h : n ≤ i) :
    (a ++ b).extractLsb' i k = a.extractLsb' (i - n) k := by
  apply BitVec.eq_of_getLsbD_eq
  intro j hj
  have h1 : ¬ i + j < n := by omega
  have h2 : i + j - n = i - n + j := by omega
  simp [BitVec.getLsbD_append, h1, h2, hj]

/-- A field that lies in the less significant part of a concatenation. -/
theorem extract_append_low {m n k : Nat} (a : BitVec m) (b : BitVec n) (i : Nat) (h : i + k ≤ n) :
    (a ++ b).extractLsb' i k = b.extractLsb' i k := by
  apply BitVec.eq_of_getLsbD_eq
  intro j hj
  have h1 : i + j < n := by omega
  simp [BitVec.getLsbD_append, BitVec.getLsbD_extractLsb', h1]

/-- The whole of a bit vector, as a field. -/
theorem extract_whole {n : Nat} (a : BitVec n) : a.extractLsb' 0 n = a := by simp

/-- The opcode field of an op word (30_encoding.md R100). -/
theorem opcodeOf_append (o : Byte) (fields : BitVec 56) : opcodeOf (o ++ fields) = o := by
  have h := extract_append_high (k := 8) o fields 56 (Nat.le_refl _)
  rw [Nat.sub_self, extract_whole] at h
  exact h

end Sys2Proof
end

