-- ==== Sys2Proof/Laws/Memory.lean ====
section
/-! SUPPORT. The laws of the pixel buffer: a read after a write, what a write leaves alone, and the canonical form, which every
operation keeps. -/

namespace Sys2Proof.Machine

open Sys2Proof

/-- An index that every entry's index exceeds is not listed. -/
theorem memGet_below (m : List Host.Cell) (i : Nat) (h : ∀ c ∈ m, i < c.1) : memGet m i = none := by
  induction m with
  | nil => rfl
  | cons c rest ih =>
    obtain ⟨j, w⟩ := c
    have hj : i < j := h (j, w) (by simp)
    rw [memGet, if_neg (Nat.ne_of_lt hj)]
    exact ih fun c hc => h c (by simp [hc])

/-- Reading the index just written gives the byte written. -/
@[simp] theorem memGet_memSet_same (m : List Host.Cell) (i : Nat) (v : Byte) : memGet (memSet m i v) i = some v := by
  induction m with
  | nil => simp [memSet, memGet]
  | cons c rest ih =>
    obtain ⟨j, w⟩ := c
    unfold memSet
    split
    · simp [memGet]
    · split
      · simp [memGet]
      · rename_i h1 h2
        simp [memGet, h2, ih]

/-- A write leaves every other index alone. -/
theorem memGet_memSet_ne (m : List Host.Cell) (i k : Nat) (v : Byte) (h : k ≠ i) : memGet (memSet m i v) k = memGet m k := by
  induction m with
  | nil => simp [memSet, memGet, h]
  | cons c rest ih =>
    obtain ⟨j, w⟩ := c
    unfold memSet
    split
    · simp [memGet, h]
    · split
      · rename_i h1 h2
        subst h2
        simp [memGet, h]
      · simp only [memGet, ih]

/-- The indices of a buffer after a write are those before it and the one written. -/
theorem mem_memSet (m : List Host.Cell) (i : Nat) (v : Byte) (c : Host.Cell) (h : c ∈ memSet m i v) : c = (i, v) ∨ c ∈ m := by
  induction m with
  | nil => simpa [memSet] using h
  | cons d rest ih =>
    obtain ⟨j, w⟩ := d
    unfold memSet at h
    split at h
    · simpa using h
    · split at h
      · rcases List.mem_cons.mp h with h | h
        · exact .inl h
        · exact .inr (by simp [h])
      · rcases List.mem_cons.mp h with h | h
        · exact .inr (by simp [h])
        · exact (ih h).imp_right fun h => by simp [h]

/-- The canonical form of a nonempty list: the head's index is below all others, and the tail is canonical. -/
theorem memWf_cons (c : Host.Cell) (m : List Host.Cell) : memWf (c :: m) = true ↔ (∀ d ∈ m, c.1 < d.1) ∧ memWf m = true := by
  induction m generalizing c with
  | nil => simp [memWf]
  | cons e rest ih =>
    obtain ⟨i, v⟩ := c
    obtain ⟨j, w⟩ := e
    simp only [memWf, Bool.and_eq_true, decide_eq_true_eq, List.mem_cons, forall_eq_or_imp]
    constructor
    · rintro ⟨hij, hw⟩
      exact ⟨⟨hij, fun d hd => Nat.lt_trans hij (((ih (j, w)).mp hw).1 d hd)⟩, hw⟩
    · rintro ⟨⟨hij, -⟩, hw⟩
      exact ⟨hij, hw⟩

/-- A write keeps the canonical form. -/
theorem memWf_memSet (m : List Host.Cell) (i : Nat) (v : Byte) (h : memWf m = true) : memWf (memSet m i v) = true := by
  induction m with
  | nil => simp [memSet, memWf]
  | cons c rest ih =>
    obtain ⟨j, w⟩ := c
    obtain ⟨hlt, hr⟩ := (memWf_cons _ _).mp h
    unfold memSet
    split
    · rename_i hij
      refine (memWf_cons _ _).mpr ⟨?_, h⟩
      intro d hd
      rcases List.mem_cons.mp hd with rfl | hd
      · exact hij
      · exact Nat.lt_trans hij (hlt d hd)
    · split
      · rename_i h1 h2
        subst h2
        exact (memWf_cons _ _).mpr ⟨hlt, hr⟩
      · rename_i h1 h2
        refine (memWf_cons _ _).mpr ⟨?_, ih hr⟩
        intro d hd
        rcases mem_memSet _ _ _ _ hd with rfl | hd
        · exact Nat.lt_of_le_of_ne (Nat.not_lt.mp h1) (fun he => h2 he.symm)
        · exact hlt d hd

/-- What a fill has written reads as the fill's byte. -/
theorem memGet_memFill (n : Nat) (v : Byte) (m : List Host.Cell) (i : Nat) :
    memGet (memFill n v m) i = if i < n then some v else memGet m i := by
  induction n with
  | zero => simp [memFill]
  | succ n ih =>
    unfold memFill
    by_cases h : i = n
    · subst h; simp
    · rw [memGet_memSet_ne _ _ _ _ h, ih]
      by_cases hn : i < n
      · simp [hn, Nat.lt_succ_of_lt hn]
      · rw [if_neg hn, if_neg (by omega)]

/-- A fill keeps the canonical form. -/
theorem memWf_memFill (n : Nat) (v : Byte) (m : List Host.Cell) (h : memWf m = true) : memWf (memFill n v m) = true := by
  induction n with
  | zero => exact h
  | succ n ih => exact memWf_memSet _ _ _ ih

/-- A fill lists no index but those it writes and those listed before. -/
theorem mem_memFill (n : Nat) (v : Byte) (m : List Host.Cell) (c : Host.Cell) (h : c ∈ memFill n v m) : c.1 < n ∨ c ∈ m := by
  induction n with
  | zero => exact .inr h
  | succ n ih =>
    rcases mem_memSet _ _ _ _ h with rfl | h
    · exact .inl (Nat.lt_succ_self n)
    · exact (ih h).imp_left Nat.lt_succ_of_lt

/-- The buffer of the reset state is canonical. -/
theorem memWf_reset : memWf State.reset.buf = true := rfl

/-- Reading the byte just written. -/
@[simp] theorem State.readByte_writeByte_same (i : Nat) (v : Byte) (s : State) : (s.writeByte i v).readByte i = v := by
  simp [State.readByte, State.writeByte]

/-- Reading any other byte. -/
theorem State.readByte_writeByte_ne (i k : Nat) (v : Byte) (s : State) (h : k ≠ i) :
    (s.writeByte i v).readByte k = s.readByte k := by
  simp [State.readByte, State.writeByte, memGet_memSet_ne _ _ _ _ h]

/-- Reading a byte after a fill. -/
theorem State.readByte_fillBuf (v : Byte) (s : State) (i : Nat) (h : i < bufBytes s.cfg) : (s.fillBuf v).readByte i = v := by
  simp [State.readByte, State.fillBuf, memGet_memFill, h]

/-- What a read of the buffer depends on. -/
theorem State.readByte_congr (s t : State) (hb : t.buf = s.buf) (he : t.epoch = s.epoch) : t.readByte = s.readByte := by
  funext i
  simp [State.readByte, hb, he]

/-- What the pixel burst's bytes depend on. -/
theorem State.bufImage_congr (s t : State) (hc : t.cfg = s.cfg) (hb : t.buf = s.buf) (he : t.epoch = s.epoch) :
    t.bufImage = s.bufImage := by
  simp [State.bufImage, hc, State.readByte_congr s t hb he]

end Sys2Proof.Machine
end

