-- ==== Sys2Proof/Laws/State.lean ====
section
/-! SUPPORT. What each primitive update does to each field of the state: for every update and every field one equation. The
equations of one update stand together as a conjunction, which simp takes apart into one rule a field. -/

namespace Sys2Proof.Machine

open Sys2Proof

/-- The words of the flags, bit by bit (10_state.md R52, 60_exceptions.md R300). -/
@[simp] theorem flagMask_words :
    flagMask .errNoTxn = 0x001#12 ∧ flagMask .errReentrant = 0x002#12 ∧ flagMask .errUnmatchedEnd = 0x004#12
    ∧ flagMask .errRotation = 0x008#12 ∧ flagMask .errPowerState = 0x010#12 ∧ flagMask .waitTimeout = 0x020#12
    ∧ flagMask .updateDropped = 0x040#12 ∧ flagMask .errIllegalOp = 0x080#12 ∧ flagMask .errNotInit = 0x100#12
    ∧ flagMask .hazCmdWhileBusy = 0x200#12 ∧ flagMask .errTxnAbandoned = 0x400#12 ∧ flagMask .errRestore = 0x800#12 := by
  decide

/-- Every field after `emit` (00_scope.md R13). -/
@[simp] theorem State.emit_fields (e : Event) (s : State) :
  (s.emit e).cfg = s.cfg ∧ (s.emit e).txnOpen = s.txnOpen ∧ (s.emit e).csN = s.csN ∧ (s.emit e).dc = s.dc ∧
    (s.emit e).rstN = s.rstN ∧ (s.emit e).sck = s.sck ∧ (s.emit e).mosi = s.mosi ∧ (s.emit e).spiHz = s.spiHz ∧
    (s.emit e).count = s.count ∧ (s.emit e).initialized = s.initialized ∧ (s.emit e).fullMode = s.fullMode ∧
    (s.emit e).powerOn = s.powerOn ∧ (s.emit e).rotation = s.rotation ∧ (s.emit e).status = s.status ∧
    (s.emit e).sync1 = s.sync1 ∧ (s.emit e).sync2 = s.sync2 ∧ (s.emit e).busyLast = s.busyLast ∧
    (s.emit e).buf = s.buf ∧ (s.emit e).latched = s.latched ∧ (s.emit e).position = s.position + 1 ∧
    (s.emit e).loopCtr = s.loopCtr ∧ (s.emit e).opTimeout = s.opTimeout ∧ (s.emit e).opDone = s.opDone ∧
    (s.emit e).forced = s.forced ∧ (s.emit e).opReady = s.opReady ∧ (s.emit e).rspValid = s.rspValid ∧
    (s.emit e).rspWord = s.rspWord ∧ (s.emit e).rspRefused = s.rspRefused ∧ (s.emit e).trace = s.trace ++ [e] ∧
    (s.emit e).traceBase = s.traceBase ∧ (s.emit e).panel = s.panel ∧ (s.emit e).drawIx = s.drawIx ∧
    (s.emit e).levelIx = s.levelIx ∧ (s.emit e).freeIx = s.freeIx ∧ (s.emit e).epoch = s.epoch ∧
    (s.emit e).agenda = s.agenda :=
  ⟨rfl, rfl, rfl, rfl, rfl, rfl, rfl, rfl, rfl, rfl, rfl, rfl, rfl, rfl, rfl, rfl, rfl, rfl, rfl, rfl, rfl, rfl, rfl, rfl, rfl, rfl, rfl, rfl, rfl, rfl, rfl, rfl, rfl, rfl, rfl, rfl⟩

/-- Every field after `raise` (60_exceptions.md R302). -/
@[simp] theorem State.raise_fields (f : Flag) (s : State) :
  (s.raise f).cfg = s.cfg ∧ (s.raise f).txnOpen = s.txnOpen ∧ (s.raise f).csN = s.csN ∧ (s.raise f).dc = s.dc ∧
    (s.raise f).rstN = s.rstN ∧ (s.raise f).sck = s.sck ∧ (s.raise f).mosi = s.mosi ∧ (s.raise f).spiHz = s.spiHz ∧
    (s.raise f).count = s.count ∧ (s.raise f).initialized = s.initialized ∧ (s.raise f).fullMode = s.fullMode ∧
    (s.raise f).powerOn = s.powerOn ∧ (s.raise f).rotation = s.rotation ∧
    (s.raise f).status = s.status ||| flagMask f ∧ (s.raise f).sync1 = s.sync1 ∧ (s.raise f).sync2 = s.sync2 ∧
    (s.raise f).busyLast = s.busyLast ∧ (s.raise f).buf = s.buf ∧ (s.raise f).latched = s.latched ∧
    (s.raise f).position = s.position ∧ (s.raise f).loopCtr = s.loopCtr ∧ (s.raise f).opTimeout = s.opTimeout ∧
    (s.raise f).opDone = s.opDone ∧ (s.raise f).forced = s.forced ∧ (s.raise f).opReady = s.opReady ∧
    (s.raise f).rspValid = s.rspValid ∧ (s.raise f).rspWord = s.rspWord ∧ (s.raise f).rspRefused = s.rspRefused ∧
    (s.raise f).trace = s.trace ∧ (s.raise f).traceBase = s.traceBase ∧ (s.raise f).panel = s.panel ∧
    (s.raise f).drawIx = s.drawIx ∧ (s.raise f).levelIx = s.levelIx ∧ (s.raise f).freeIx = s.freeIx ∧
    (s.raise f).epoch = s.epoch ∧ (s.raise f).agenda = s.agenda :=
  ⟨rfl, rfl, rfl, rfl, rfl, rfl, rfl, rfl, rfl, rfl, rfl, rfl, rfl, rfl, rfl, rfl, rfl, rfl, rfl, rfl, rfl, rfl, rfl, rfl, rfl, rfl, rfl, rfl, rfl, rfl, rfl, rfl, rfl, rfl, rfl, rfl⟩

/-- Every field after `raiseIf` (60_exceptions.md R302). -/
@[simp] theorem State.raiseIf_fields (c : Bool) (f : Flag) (s : State) :
  (s.raiseIf c f).cfg = s.cfg ∧ (s.raiseIf c f).txnOpen = s.txnOpen ∧ (s.raiseIf c f).csN = s.csN ∧
    (s.raiseIf c f).dc = s.dc ∧ (s.raiseIf c f).rstN = s.rstN ∧ (s.raiseIf c f).sck = s.sck ∧
    (s.raiseIf c f).mosi = s.mosi ∧ (s.raiseIf c f).spiHz = s.spiHz ∧ (s.raiseIf c f).count = s.count ∧
    (s.raiseIf c f).initialized = s.initialized ∧ (s.raiseIf c f).fullMode = s.fullMode ∧
    (s.raiseIf c f).powerOn = s.powerOn ∧ (s.raiseIf c f).rotation = s.rotation ∧
    (s.raiseIf c f).status = (if c then s.status ||| flagMask f else s.status) ∧ (s.raiseIf c f).sync1 = s.sync1 ∧
    (s.raiseIf c f).sync2 = s.sync2 ∧ (s.raiseIf c f).busyLast = s.busyLast ∧ (s.raiseIf c f).buf = s.buf ∧
    (s.raiseIf c f).latched = s.latched ∧ (s.raiseIf c f).position = s.position ∧
    (s.raiseIf c f).loopCtr = s.loopCtr ∧ (s.raiseIf c f).opTimeout = s.opTimeout ∧
    (s.raiseIf c f).opDone = s.opDone ∧ (s.raiseIf c f).forced = s.forced ∧ (s.raiseIf c f).opReady = s.opReady ∧
    (s.raiseIf c f).rspValid = s.rspValid ∧ (s.raiseIf c f).rspWord = s.rspWord ∧
    (s.raiseIf c f).rspRefused = s.rspRefused ∧ (s.raiseIf c f).trace = s.trace ∧
    (s.raiseIf c f).traceBase = s.traceBase ∧ (s.raiseIf c f).panel = s.panel ∧ (s.raiseIf c f).drawIx = s.drawIx ∧
    (s.raiseIf c f).levelIx = s.levelIx ∧ (s.raiseIf c f).freeIx = s.freeIx ∧ (s.raiseIf c f).epoch = s.epoch ∧
    (s.raiseIf c f).agenda = s.agenda := by
  refine ⟨?_, ?_, ?_, ?_, ?_, ?_, ?_, ?_, ?_, ?_, ?_, ?_, ?_, ?_, ?_, ?_, ?_, ?_, ?_, ?_, ?_, ?_, ?_, ?_, ?_, ?_, ?_, ?_, ?_, ?_, ?_, ?_, ?_, ?_, ?_, ?_⟩ <;> (unfold State.raiseIf; split <;> rfl)

/-- Every field after `clearFlags` (44_system.md R281). -/
@[simp] theorem State.clearFlags_fields (m : BitVec 12) (s : State) :
  (s.clearFlags m).cfg = s.cfg ∧ (s.clearFlags m).txnOpen = s.txnOpen ∧ (s.clearFlags m).csN = s.csN ∧
    (s.clearFlags m).dc = s.dc ∧ (s.clearFlags m).rstN = s.rstN ∧ (s.clearFlags m).sck = s.sck ∧
    (s.clearFlags m).mosi = s.mosi ∧ (s.clearFlags m).spiHz = s.spiHz ∧ (s.clearFlags m).count = s.count ∧
    (s.clearFlags m).initialized = s.initialized ∧ (s.clearFlags m).fullMode = s.fullMode ∧
    (s.clearFlags m).powerOn = s.powerOn ∧ (s.clearFlags m).rotation = s.rotation ∧
    (s.clearFlags m).status = s.status &&& ~~~m ∧ (s.clearFlags m).sync1 = s.sync1 ∧
    (s.clearFlags m).sync2 = s.sync2 ∧ (s.clearFlags m).busyLast = s.busyLast ∧ (s.clearFlags m).buf = s.buf ∧
    (s.clearFlags m).latched = s.latched ∧ (s.clearFlags m).position = s.position ∧
    (s.clearFlags m).loopCtr = s.loopCtr ∧ (s.clearFlags m).opTimeout = s.opTimeout ∧
    (s.clearFlags m).opDone = s.opDone ∧ (s.clearFlags m).forced = s.forced ∧ (s.clearFlags m).opReady = s.opReady ∧
    (s.clearFlags m).rspValid = s.rspValid ∧ (s.clearFlags m).rspWord = s.rspWord ∧
    (s.clearFlags m).rspRefused = s.rspRefused ∧ (s.clearFlags m).trace = s.trace ∧
    (s.clearFlags m).traceBase = s.traceBase ∧ (s.clearFlags m).panel = s.panel ∧
    (s.clearFlags m).drawIx = s.drawIx ∧ (s.clearFlags m).levelIx = s.levelIx ∧ (s.clearFlags m).freeIx = s.freeIx ∧
    (s.clearFlags m).epoch = s.epoch ∧ (s.clearFlags m).agenda = s.agenda :=
  ⟨rfl, rfl, rfl, rfl, rfl, rfl, rfl, rfl, rfl, rfl, rfl, rfl, rfl, rfl, rfl, rfl, rfl, rfl, rfl, rfl, rfl, rfl, rfl, rfl, rfl, rfl, rfl, rfl, rfl, rfl, rfl, rfl, rfl, rfl, rfl, rfl⟩

/-- Every field after `writeByte` (00_scope.md R13). -/
@[simp] theorem State.writeByte_fields (i : Nat) (v : Byte) (s : State) :
  (s.writeByte i v).cfg = s.cfg ∧ (s.writeByte i v).txnOpen = s.txnOpen ∧ (s.writeByte i v).csN = s.csN ∧
    (s.writeByte i v).dc = s.dc ∧ (s.writeByte i v).rstN = s.rstN ∧ (s.writeByte i v).sck = s.sck ∧
    (s.writeByte i v).mosi = s.mosi ∧ (s.writeByte i v).spiHz = s.spiHz ∧ (s.writeByte i v).count = s.count ∧
    (s.writeByte i v).initialized = s.initialized ∧ (s.writeByte i v).fullMode = s.fullMode ∧
    (s.writeByte i v).powerOn = s.powerOn ∧ (s.writeByte i v).rotation = s.rotation ∧
    (s.writeByte i v).status = s.status ∧ (s.writeByte i v).sync1 = s.sync1 ∧ (s.writeByte i v).sync2 = s.sync2 ∧
    (s.writeByte i v).busyLast = s.busyLast ∧ (s.writeByte i v).buf = memSet s.buf i v ∧
    (s.writeByte i v).latched = s.latched ∧ (s.writeByte i v).position = s.position ∧
    (s.writeByte i v).loopCtr = s.loopCtr ∧ (s.writeByte i v).opTimeout = s.opTimeout ∧
    (s.writeByte i v).opDone = s.opDone ∧ (s.writeByte i v).forced = s.forced ∧
    (s.writeByte i v).opReady = s.opReady ∧ (s.writeByte i v).rspValid = s.rspValid ∧
    (s.writeByte i v).rspWord = s.rspWord ∧ (s.writeByte i v).rspRefused = s.rspRefused ∧
    (s.writeByte i v).trace = s.trace ∧ (s.writeByte i v).traceBase = s.traceBase ∧
    (s.writeByte i v).panel = s.panel ∧ (s.writeByte i v).drawIx = s.drawIx ∧ (s.writeByte i v).levelIx = s.levelIx ∧
    (s.writeByte i v).freeIx = s.freeIx ∧ (s.writeByte i v).epoch = s.epoch ∧ (s.writeByte i v).agenda = s.agenda :=
  ⟨rfl, rfl, rfl, rfl, rfl, rfl, rfl, rfl, rfl, rfl, rfl, rfl, rfl, rfl, rfl, rfl, rfl, rfl, rfl, rfl, rfl, rfl, rfl, rfl, rfl, rfl, rfl, rfl, rfl, rfl, rfl, rfl, rfl, rfl, rfl, rfl⟩

/-- Every field after `fillBuf` (43_pixels.md R265). -/
@[simp] theorem State.fillBuf_fields (v : Byte) (s : State) :
  (s.fillBuf v).cfg = s.cfg ∧ (s.fillBuf v).txnOpen = s.txnOpen ∧ (s.fillBuf v).csN = s.csN ∧
    (s.fillBuf v).dc = s.dc ∧ (s.fillBuf v).rstN = s.rstN ∧ (s.fillBuf v).sck = s.sck ∧ (s.fillBuf v).mosi = s.mosi ∧
    (s.fillBuf v).spiHz = s.spiHz ∧ (s.fillBuf v).count = s.count ∧ (s.fillBuf v).initialized = s.initialized ∧
    (s.fillBuf v).fullMode = s.fullMode ∧ (s.fillBuf v).powerOn = s.powerOn ∧ (s.fillBuf v).rotation = s.rotation ∧
    (s.fillBuf v).status = s.status ∧ (s.fillBuf v).sync1 = s.sync1 ∧ (s.fillBuf v).sync2 = s.sync2 ∧
    (s.fillBuf v).busyLast = s.busyLast ∧ (s.fillBuf v).buf = memFill (bufBytes s.cfg) v s.buf ∧
    (s.fillBuf v).latched = s.latched ∧ (s.fillBuf v).position = s.position ∧ (s.fillBuf v).loopCtr = s.loopCtr ∧
    (s.fillBuf v).opTimeout = s.opTimeout ∧ (s.fillBuf v).opDone = s.opDone ∧ (s.fillBuf v).forced = s.forced ∧
    (s.fillBuf v).opReady = s.opReady ∧ (s.fillBuf v).rspValid = s.rspValid ∧ (s.fillBuf v).rspWord = s.rspWord ∧
    (s.fillBuf v).rspRefused = s.rspRefused ∧ (s.fillBuf v).trace = s.trace ∧ (s.fillBuf v).traceBase = s.traceBase ∧
    (s.fillBuf v).panel = s.panel ∧ (s.fillBuf v).drawIx = s.drawIx ∧ (s.fillBuf v).levelIx = s.levelIx ∧
    (s.fillBuf v).freeIx = s.freeIx ∧ (s.fillBuf v).epoch = s.epoch ∧ (s.fillBuf v).agenda = s.agenda :=
  ⟨rfl, rfl, rfl, rfl, rfl, rfl, rfl, rfl, rfl, rfl, rfl, rfl, rfl, rfl, rfl, rfl, rfl, rfl, rfl, rfl, rfl, rfl, rfl, rfl, rfl, rfl, rfl, rfl, rfl, rfl, rfl, rfl, rfl, rfl, rfl, rfl⟩

/-- Every field after `clockEdge` (10_state.md R47). -/
@[simp] theorem State.clockEdge_fields (b : Bool) (s : State) :
  (s.clockEdge b).cfg = s.cfg ∧ (s.clockEdge b).txnOpen = s.txnOpen ∧ (s.clockEdge b).csN = s.csN ∧
    (s.clockEdge b).dc = s.dc ∧ (s.clockEdge b).rstN = s.rstN ∧ (s.clockEdge b).sck = s.sck ∧
    (s.clockEdge b).mosi = s.mosi ∧ (s.clockEdge b).spiHz = s.spiHz ∧ (s.clockEdge b).count = s.count ∧
    (s.clockEdge b).initialized = s.initialized ∧ (s.clockEdge b).fullMode = s.fullMode ∧
    (s.clockEdge b).powerOn = s.powerOn ∧ (s.clockEdge b).rotation = s.rotation ∧ (s.clockEdge b).status = s.status ∧
    (s.clockEdge b).sync1 = b ∧ (s.clockEdge b).sync2 = s.sync1 ∧ (s.clockEdge b).busyLast = s.busyLast ∧
    (s.clockEdge b).buf = s.buf ∧ (s.clockEdge b).latched = s.latched ∧ (s.clockEdge b).position = s.position ∧
    (s.clockEdge b).loopCtr = s.loopCtr ∧ (s.clockEdge b).opTimeout = s.opTimeout ∧
    (s.clockEdge b).opDone = s.opDone ∧ (s.clockEdge b).forced = s.forced ∧ (s.clockEdge b).opReady = s.opReady ∧
    (s.clockEdge b).rspValid = s.rspValid ∧ (s.clockEdge b).rspWord = s.rspWord ∧
    (s.clockEdge b).rspRefused = s.rspRefused ∧ (s.clockEdge b).trace = s.trace ∧
    (s.clockEdge b).traceBase = s.traceBase ∧ (s.clockEdge b).panel = s.panel ∧ (s.clockEdge b).drawIx = s.drawIx ∧
    (s.clockEdge b).levelIx = s.levelIx ∧ (s.clockEdge b).freeIx = s.freeIx ∧ (s.clockEdge b).epoch = s.epoch ∧
    (s.clockEdge b).agenda = s.agenda :=
  ⟨rfl, rfl, rfl, rfl, rfl, rfl, rfl, rfl, rfl, rfl, rfl, rfl, rfl, rfl, rfl, rfl, rfl, rfl, rfl, rfl, rfl, rfl, rfl, rfl, rfl, rfl, rfl, rfl, rfl, rfl, rfl, rfl, rfl, rfl, rfl, rfl⟩

/-- What the clock does to the synchronizer where nothing samples the line (10_state.md R47). -/
theorem State.clockOn_eq (s : State) : s.clockOn = { s with
    sync1 := Config.busyLevel (s.levelIx + 1), sync2 := Config.busyLevel s.levelIx, levelIx := s.levelIx + 2 } := by
  simp only [State.clockOn, State.clockEdge]

/-- Every field after `clockOn` (10_state.md R47). -/
@[simp] theorem State.clockOn_fields (s : State) :
  (s.clockOn).cfg = s.cfg ∧ (s.clockOn).txnOpen = s.txnOpen ∧ (s.clockOn).csN = s.csN ∧ (s.clockOn).dc = s.dc ∧
    (s.clockOn).rstN = s.rstN ∧ (s.clockOn).sck = s.sck ∧ (s.clockOn).mosi = s.mosi ∧ (s.clockOn).spiHz = s.spiHz ∧
    (s.clockOn).count = s.count ∧ (s.clockOn).initialized = s.initialized ∧ (s.clockOn).fullMode = s.fullMode ∧
    (s.clockOn).powerOn = s.powerOn ∧ (s.clockOn).rotation = s.rotation ∧ (s.clockOn).status = s.status ∧
    (s.clockOn).sync1 = Config.busyLevel (s.levelIx + 1) ∧ (s.clockOn).sync2 = Config.busyLevel s.levelIx ∧
    (s.clockOn).busyLast = s.busyLast ∧ (s.clockOn).buf = s.buf ∧ (s.clockOn).latched = s.latched ∧
    (s.clockOn).position = s.position ∧ (s.clockOn).loopCtr = s.loopCtr ∧ (s.clockOn).opTimeout = s.opTimeout ∧
    (s.clockOn).opDone = s.opDone ∧ (s.clockOn).forced = s.forced ∧ (s.clockOn).opReady = s.opReady ∧
    (s.clockOn).rspValid = s.rspValid ∧ (s.clockOn).rspWord = s.rspWord ∧ (s.clockOn).rspRefused = s.rspRefused ∧
    (s.clockOn).trace = s.trace ∧ (s.clockOn).traceBase = s.traceBase ∧ (s.clockOn).panel = s.panel ∧
    (s.clockOn).drawIx = s.drawIx ∧ (s.clockOn).levelIx = s.levelIx + 2 ∧ (s.clockOn).freeIx = s.freeIx ∧
    (s.clockOn).epoch = s.epoch ∧ (s.clockOn).agenda = s.agenda := by
  rw [State.clockOn_eq]
  exact ⟨rfl, rfl, rfl, rfl, rfl, rfl, rfl, rfl, rfl, rfl, rfl, rfl, rfl, rfl, rfl, rfl, rfl, rfl, rfl, rfl, rfl, rfl, rfl, rfl, rfl, rfl, rfl, rfl, rfl, rfl, rfl, rfl, rfl, rfl, rfl, rfl⟩

/-- What a sample does (41_sequencer.md R180). -/
theorem State.sample_eq (s : State) : s.sample = { s with
    sync1 := Config.syncStage s.drawIx, sync2 := s.sampleAt 0, busyLast := s.sampleAt 0, drawIx := s.drawIx + 1 } := by
  simp only [State.sample, State.clockSync, State.clockEdge]

/-- Every field after `sample` (41_sequencer.md R180). -/
@[simp] theorem State.sample_fields (s : State) :
  (s.sample).cfg = s.cfg ∧ (s.sample).txnOpen = s.txnOpen ∧ (s.sample).csN = s.csN ∧ (s.sample).dc = s.dc ∧
    (s.sample).rstN = s.rstN ∧ (s.sample).sck = s.sck ∧ (s.sample).mosi = s.mosi ∧ (s.sample).spiHz = s.spiHz ∧
    (s.sample).count = s.count ∧ (s.sample).initialized = s.initialized ∧ (s.sample).fullMode = s.fullMode ∧
    (s.sample).powerOn = s.powerOn ∧ (s.sample).rotation = s.rotation ∧ (s.sample).status = s.status ∧
    (s.sample).sync1 = Config.syncStage s.drawIx ∧ (s.sample).sync2 = s.sampleAt 0 ∧
    (s.sample).busyLast = s.sampleAt 0 ∧ (s.sample).buf = s.buf ∧ (s.sample).latched = s.latched ∧
    (s.sample).position = s.position ∧ (s.sample).loopCtr = s.loopCtr ∧ (s.sample).opTimeout = s.opTimeout ∧
    (s.sample).opDone = s.opDone ∧ (s.sample).forced = s.forced ∧ (s.sample).opReady = s.opReady ∧
    (s.sample).rspValid = s.rspValid ∧ (s.sample).rspWord = s.rspWord ∧ (s.sample).rspRefused = s.rspRefused ∧
    (s.sample).trace = s.trace ∧ (s.sample).traceBase = s.traceBase ∧ (s.sample).panel = s.panel ∧
    (s.sample).drawIx = s.drawIx + 1 ∧ (s.sample).levelIx = s.levelIx ∧ (s.sample).freeIx = s.freeIx ∧
    (s.sample).epoch = s.epoch ∧ (s.sample).agenda = s.agenda := by
  rw [State.sample_eq]
  exact ⟨rfl, rfl, rfl, rfl, rfl, rfl, rfl, rfl, rfl, rfl, rfl, rfl, rfl, rfl, rfl, rfl, rfl, rfl, rfl, rfl, rfl, rfl, rfl, rfl, rfl, rfl, rfl, rfl, rfl, rfl, rfl, rfl, rfl, rfl, rfl, rfl⟩

/-- What a poll does (41_sequencer.md R182). -/
theorem State.poll_eq (s : State) : s.poll = { s with
    sync1 := Config.syncStage s.drawIx, sync2 := s.sampleAt 0, busyLast := s.sampleAt 0, drawIx := s.drawIx + 1,
    trace := s.trace ++ [.poll (s.sampleAt 0)], position := s.position + 1 } := by
  simp only [State.poll, State.sample_eq, State.emit]

/-- Every field after `poll` (41_sequencer.md R182). -/
@[simp] theorem State.poll_fields (s : State) :
  (s.poll).cfg = s.cfg ∧ (s.poll).txnOpen = s.txnOpen ∧ (s.poll).csN = s.csN ∧ (s.poll).dc = s.dc ∧
    (s.poll).rstN = s.rstN ∧ (s.poll).sck = s.sck ∧ (s.poll).mosi = s.mosi ∧ (s.poll).spiHz = s.spiHz ∧
    (s.poll).count = s.count ∧ (s.poll).initialized = s.initialized ∧ (s.poll).fullMode = s.fullMode ∧
    (s.poll).powerOn = s.powerOn ∧ (s.poll).rotation = s.rotation ∧ (s.poll).status = s.status ∧
    (s.poll).sync1 = Config.syncStage s.drawIx ∧ (s.poll).sync2 = s.sampleAt 0 ∧ (s.poll).busyLast = s.sampleAt 0 ∧
    (s.poll).buf = s.buf ∧ (s.poll).latched = s.latched ∧ (s.poll).position = s.position + 1 ∧
    (s.poll).loopCtr = s.loopCtr ∧ (s.poll).opTimeout = s.opTimeout ∧ (s.poll).opDone = s.opDone ∧
    (s.poll).forced = s.forced ∧ (s.poll).opReady = s.opReady ∧ (s.poll).rspValid = s.rspValid ∧
    (s.poll).rspWord = s.rspWord ∧ (s.poll).rspRefused = s.rspRefused ∧
    (s.poll).trace = s.trace ++ [.poll (s.sampleAt 0)] ∧ (s.poll).traceBase = s.traceBase ∧
    (s.poll).panel = s.panel ∧ (s.poll).drawIx = s.drawIx + 1 ∧ (s.poll).levelIx = s.levelIx ∧
    (s.poll).freeIx = s.freeIx ∧ (s.poll).epoch = s.epoch ∧ (s.poll).agenda = s.agenda := by
  rw [State.poll_eq]
  exact ⟨rfl, rfl, rfl, rfl, rfl, rfl, rfl, rfl, rfl, rfl, rfl, rfl, rfl, rfl, rfl, rfl, rfl, rfl, rfl, rfl, rfl, rfl, rfl, rfl, rfl, rfl, rfl, rfl, rfl, rfl, rfl, rfl, rfl, rfl, rfl, rfl⟩

/-- Every field after `delay` (40_framer.md R148). -/
@[simp] theorem State.delay_fields (ms : Nat) (s : State) :
  (s.delay ms).cfg = s.cfg ∧ (s.delay ms).txnOpen = s.txnOpen ∧ (s.delay ms).csN = s.csN ∧ (s.delay ms).dc = s.dc ∧
    (s.delay ms).rstN = s.rstN ∧ (s.delay ms).sck = s.sck ∧ (s.delay ms).mosi = s.mosi ∧
    (s.delay ms).spiHz = s.spiHz ∧ (s.delay ms).count = s.count ∧ (s.delay ms).initialized = s.initialized ∧
    (s.delay ms).fullMode = s.fullMode ∧ (s.delay ms).powerOn = s.powerOn ∧ (s.delay ms).rotation = s.rotation ∧
    (s.delay ms).status = s.status ∧ (s.delay ms).sync1 = s.sync1 ∧ (s.delay ms).sync2 = s.sync2 ∧
    (s.delay ms).busyLast = s.busyLast ∧ (s.delay ms).buf = s.buf ∧ (s.delay ms).latched = s.latched ∧
    (s.delay ms).position = s.position + 1 ∧ (s.delay ms).loopCtr = s.loopCtr ∧
    (s.delay ms).opTimeout = s.opTimeout ∧ (s.delay ms).opDone = s.opDone ∧ (s.delay ms).forced = s.forced ∧
    (s.delay ms).opReady = s.opReady ∧ (s.delay ms).rspValid = s.rspValid ∧ (s.delay ms).rspWord = s.rspWord ∧
    (s.delay ms).rspRefused = s.rspRefused ∧ (s.delay ms).trace = s.trace ++ [.delay ms] ∧
    (s.delay ms).traceBase = s.traceBase ∧ (s.delay ms).panel = s.panel ∧ (s.delay ms).drawIx = s.drawIx ∧
    (s.delay ms).levelIx = s.levelIx ∧ (s.delay ms).freeIx = s.freeIx ∧ (s.delay ms).epoch = s.epoch ∧
    (s.delay ms).agenda = s.agenda :=
  ⟨rfl, rfl, rfl, rfl, rfl, rfl, rfl, rfl, rfl, rfl, rfl, rfl, rfl, rfl, rfl, rfl, rfl, rfl, rfl, rfl, rfl, rfl, rfl, rfl, rfl, rfl, rfl, rfl, rfl, rfl, rfl, rfl, rfl, rfl, rfl, rfl⟩

/-- One bit leaves `SCK` low and its level on `MOSI`. -/
theorem State.clockBit_eq (s : State) (b : Bool) : s.clockBit b = { s with mosi := b, sck := false } := rfl

/-- What shifting a byte does (40_framer.md R142). -/
theorem State.shift_eq (w : WireByte) (s : State) : s.shift w = { s with
    dc := true, sck := false, mosi := Config.mosiIdle s.freeIx, freeIx := s.freeIx + 1,
    trace := s.trace ++ [wireEvent w], position := s.position + 1 } := by
  simp only [State.shift, msbFirst, List.foldl, State.clockBit_eq, State.releaseMosi, State.emit]

/-- Every field after `shift` (40_framer.md R142). -/
@[simp] theorem State.shift_fields (w : WireByte) (s : State) :
  (s.shift w).cfg = s.cfg ∧ (s.shift w).txnOpen = s.txnOpen ∧ (s.shift w).csN = s.csN ∧ (s.shift w).dc = true ∧
    (s.shift w).rstN = s.rstN ∧ (s.shift w).sck = false ∧ (s.shift w).mosi = Config.mosiIdle s.freeIx ∧
    (s.shift w).spiHz = s.spiHz ∧ (s.shift w).count = s.count ∧ (s.shift w).initialized = s.initialized ∧
    (s.shift w).fullMode = s.fullMode ∧ (s.shift w).powerOn = s.powerOn ∧ (s.shift w).rotation = s.rotation ∧
    (s.shift w).status = s.status ∧ (s.shift w).sync1 = s.sync1 ∧ (s.shift w).sync2 = s.sync2 ∧
    (s.shift w).busyLast = s.busyLast ∧ (s.shift w).buf = s.buf ∧ (s.shift w).latched = s.latched ∧
    (s.shift w).position = s.position + 1 ∧ (s.shift w).loopCtr = s.loopCtr ∧ (s.shift w).opTimeout = s.opTimeout ∧
    (s.shift w).opDone = s.opDone ∧ (s.shift w).forced = s.forced ∧ (s.shift w).opReady = s.opReady ∧
    (s.shift w).rspValid = s.rspValid ∧ (s.shift w).rspWord = s.rspWord ∧ (s.shift w).rspRefused = s.rspRefused ∧
    (s.shift w).trace = s.trace ++ [wireEvent w] ∧ (s.shift w).traceBase = s.traceBase ∧
    (s.shift w).panel = s.panel ∧ (s.shift w).drawIx = s.drawIx ∧ (s.shift w).levelIx = s.levelIx ∧
    (s.shift w).freeIx = s.freeIx + 1 ∧ (s.shift w).epoch = s.epoch ∧ (s.shift w).agenda = s.agenda := by
  rw [State.shift_eq]
  exact ⟨rfl, rfl, rfl, rfl, rfl, rfl, rfl, rfl, rfl, rfl, rfl, rfl, rfl, rfl, rfl, rfl, rfl, rfl, rfl, rfl, rfl, rfl, rfl, rfl, rfl, rfl, rfl, rfl, rfl, rfl, rfl, rfl, rfl, rfl, rfl, rfl⟩

/-- Every field after `txnBegin` (40_framer.md R143). -/
@[simp] theorem State.txnBegin_fields (s : State) :
  (s.txnBegin).cfg = s.cfg ∧ (s.txnBegin).txnOpen = true ∧ (s.txnBegin).csN = false ∧ (s.txnBegin).dc = s.dc ∧
    (s.txnBegin).rstN = s.rstN ∧ (s.txnBegin).sck = s.sck ∧ (s.txnBegin).mosi = s.mosi ∧
    (s.txnBegin).spiHz = s.spiHz ∧ (s.txnBegin).count = s.count ∧ (s.txnBegin).initialized = s.initialized ∧
    (s.txnBegin).fullMode = s.fullMode ∧ (s.txnBegin).powerOn = s.powerOn ∧ (s.txnBegin).rotation = s.rotation ∧
    (s.txnBegin).status = (if s.sampleAt 0 then s.status ||| flagMask .hazCmdWhileBusy else s.status) ∧
    (s.txnBegin).sync1 = Config.syncStage s.drawIx ∧ (s.txnBegin).sync2 = s.sampleAt 0 ∧
    (s.txnBegin).busyLast = s.sampleAt 0 ∧ (s.txnBegin).buf = s.buf ∧ (s.txnBegin).latched = s.latched ∧
    (s.txnBegin).position = s.position + 1 ∧ (s.txnBegin).loopCtr = s.loopCtr ∧
    (s.txnBegin).opTimeout = s.opTimeout ∧ (s.txnBegin).opDone = s.opDone ∧ (s.txnBegin).forced = s.forced ∧
    (s.txnBegin).opReady = s.opReady ∧ (s.txnBegin).rspValid = s.rspValid ∧ (s.txnBegin).rspWord = s.rspWord ∧
    (s.txnBegin).rspRefused = s.rspRefused ∧ (s.txnBegin).trace = s.trace ++ [.csOn (s.sampleAt 0)] ∧
    (s.txnBegin).traceBase = s.traceBase ∧ (s.txnBegin).panel = s.panel ∧ (s.txnBegin).drawIx = s.drawIx + 1 ∧
    (s.txnBegin).levelIx = s.levelIx ∧ (s.txnBegin).freeIx = s.freeIx ∧ (s.txnBegin).epoch = s.epoch ∧
    (s.txnBegin).agenda = s.agenda := by
  refine ⟨?_, ?_, ?_, ?_, ?_, ?_, ?_, ?_, ?_, ?_, ?_, ?_, ?_, ?_, ?_, ?_, ?_, ?_, ?_, ?_, ?_, ?_, ?_, ?_, ?_, ?_, ?_, ?_, ?_, ?_, ?_, ?_, ?_, ?_, ?_, ?_⟩ <;> (simp only [State.txnBegin]; cases h : s.sampleAt 0 <;> simp_all)

/-- Every field after `txnEnd` (40_framer.md R144). -/
@[simp] theorem State.txnEnd_fields (s : State) :
  (s.txnEnd).cfg = s.cfg ∧ (s.txnEnd).txnOpen = false ∧ (s.txnEnd).csN = true ∧ (s.txnEnd).dc = s.dc ∧
    (s.txnEnd).rstN = s.rstN ∧ (s.txnEnd).sck = s.sck ∧ (s.txnEnd).mosi = s.mosi ∧ (s.txnEnd).spiHz = s.spiHz ∧
    (s.txnEnd).count = s.count ∧ (s.txnEnd).initialized = s.initialized ∧ (s.txnEnd).fullMode = s.fullMode ∧
    (s.txnEnd).powerOn = s.powerOn ∧ (s.txnEnd).rotation = s.rotation ∧ (s.txnEnd).status = s.status ∧
    (s.txnEnd).sync1 = s.sync1 ∧ (s.txnEnd).sync2 = s.sync2 ∧ (s.txnEnd).busyLast = s.busyLast ∧
    (s.txnEnd).buf = s.buf ∧ (s.txnEnd).latched = s.latched ∧ (s.txnEnd).position = s.position + 1 ∧
    (s.txnEnd).loopCtr = s.loopCtr ∧ (s.txnEnd).opTimeout = s.opTimeout ∧ (s.txnEnd).opDone = s.opDone ∧
    (s.txnEnd).forced = s.forced ∧ (s.txnEnd).opReady = s.opReady ∧ (s.txnEnd).rspValid = s.rspValid ∧
    (s.txnEnd).rspWord = s.rspWord ∧ (s.txnEnd).rspRefused = s.rspRefused ∧ (s.txnEnd).trace = s.trace ++ [.csOff] ∧
    (s.txnEnd).traceBase = s.traceBase ∧ (s.txnEnd).panel = s.panel ∧ (s.txnEnd).drawIx = s.drawIx ∧
    (s.txnEnd).levelIx = s.levelIx ∧ (s.txnEnd).freeIx = s.freeIx ∧ (s.txnEnd).epoch = s.epoch ∧
    (s.txnEnd).agenda = s.agenda :=
  ⟨rfl, rfl, rfl, rfl, rfl, rfl, rfl, rfl, rfl, rfl, rfl, rfl, rfl, rfl, rfl, rfl, rfl, rfl, rfl, rfl, rfl, rfl, rfl, rfl, rfl, rfl, rfl, rfl, rfl, rfl, rfl, rfl, rfl, rfl, rfl, rfl⟩

/-- Every field after `busConfig` (40_framer.md R149). -/
@[simp] theorem State.busConfig_fields (f : Word) (s : State) :
  (s.busConfig f).cfg = s.cfg ∧ (s.busConfig f).txnOpen = false ∧ (s.busConfig f).csN = true ∧
    (s.busConfig f).dc = true ∧ (s.busConfig f).rstN = true ∧ (s.busConfig f).sck = false ∧
    (s.busConfig f).mosi = s.mosi ∧ (s.busConfig f).spiHz = f ∧ (s.busConfig f).count = s.count ∧
    (s.busConfig f).initialized = s.initialized ∧ (s.busConfig f).fullMode = s.fullMode ∧
    (s.busConfig f).powerOn = s.powerOn ∧ (s.busConfig f).rotation = s.rotation ∧
    (s.busConfig f).status = (if s.txnOpen then s.status ||| flagMask .errTxnAbandoned else s.status) ∧
    (s.busConfig f).sync1 = s.sync1 ∧ (s.busConfig f).sync2 = s.sync2 ∧ (s.busConfig f).busyLast = s.busyLast ∧
    (s.busConfig f).buf = s.buf ∧ (s.busConfig f).latched = s.latched ∧
    (s.busConfig f).position = s.position + 1 + 1 ∧ (s.busConfig f).loopCtr = s.loopCtr ∧
    (s.busConfig f).opTimeout = s.opTimeout ∧ (s.busConfig f).opDone = s.opDone ∧ (s.busConfig f).forced = s.forced ∧
    (s.busConfig f).opReady = s.opReady ∧ (s.busConfig f).rspValid = s.rspValid ∧
    (s.busConfig f).rspWord = s.rspWord ∧ (s.busConfig f).rspRefused = s.rspRefused ∧
    (s.busConfig f).trace = s.trace ++ [.cfg f] ++ [.idle] ∧ (s.busConfig f).traceBase = s.traceBase ∧
    (s.busConfig f).panel = s.panel ∧ (s.busConfig f).drawIx = s.drawIx ∧ (s.busConfig f).levelIx = s.levelIx ∧
    (s.busConfig f).freeIx = s.freeIx ∧ (s.busConfig f).epoch = s.epoch ∧ (s.busConfig f).agenda = s.agenda := by
  refine ⟨?_, ?_, ?_, ?_, ?_, ?_, ?_, ?_, ?_, ?_, ?_, ?_, ?_, ?_, ?_, ?_, ?_, ?_, ?_, ?_, ?_, ?_, ?_, ?_, ?_, ?_, ?_, ?_, ?_, ?_, ?_, ?_, ?_, ?_, ?_, ?_⟩ <;> (unfold State.busConfig State.raiseIf; cases h : s.txnOpen <;> simp_all)

/-- What the panel hard reset does (40_framer.md R150). -/
theorem State.resetSeq_eq (s : State) : s.resetSeq = { s with
    rstN := true, initialized := false, powerOn := false, position := s.position + 1 + 1 + 1 + 1,
    trace := s.trace ++ [.rst false] ++ [.delay resetMs] ++ [.rst true] ++ [.delay resetMs] } := by
  simp only [State.resetSeq, State.driveReset, State.delay, State.emit]

/-- Every field after `resetSeq` (40_framer.md R150). -/
@[simp] theorem State.resetSeq_fields (s : State) :
  (s.resetSeq).cfg = s.cfg ∧ (s.resetSeq).txnOpen = s.txnOpen ∧ (s.resetSeq).csN = s.csN ∧ (s.resetSeq).dc = s.dc ∧
    (s.resetSeq).rstN = true ∧ (s.resetSeq).sck = s.sck ∧ (s.resetSeq).mosi = s.mosi ∧ (s.resetSeq).spiHz = s.spiHz ∧
    (s.resetSeq).count = s.count ∧ (s.resetSeq).initialized = false ∧ (s.resetSeq).fullMode = s.fullMode ∧
    (s.resetSeq).powerOn = false ∧ (s.resetSeq).rotation = s.rotation ∧ (s.resetSeq).status = s.status ∧
    (s.resetSeq).sync1 = s.sync1 ∧ (s.resetSeq).sync2 = s.sync2 ∧ (s.resetSeq).busyLast = s.busyLast ∧
    (s.resetSeq).buf = s.buf ∧ (s.resetSeq).latched = s.latched ∧
    (s.resetSeq).position = s.position + 1 + 1 + 1 + 1 ∧ (s.resetSeq).loopCtr = s.loopCtr ∧
    (s.resetSeq).opTimeout = s.opTimeout ∧ (s.resetSeq).opDone = s.opDone ∧ (s.resetSeq).forced = s.forced ∧
    (s.resetSeq).opReady = s.opReady ∧ (s.resetSeq).rspValid = s.rspValid ∧ (s.resetSeq).rspWord = s.rspWord ∧
    (s.resetSeq).rspRefused = s.rspRefused ∧
    (s.resetSeq).trace = s.trace ++ [.rst false] ++ [.delay resetMs] ++ [.rst true] ++ [.delay resetMs] ∧
    (s.resetSeq).traceBase = s.traceBase ∧ (s.resetSeq).panel = s.panel ∧ (s.resetSeq).drawIx = s.drawIx ∧
    (s.resetSeq).levelIx = s.levelIx ∧ (s.resetSeq).freeIx = s.freeIx ∧ (s.resetSeq).epoch = s.epoch ∧
    (s.resetSeq).agenda = s.agenda := by
  rw [State.resetSeq_eq]
  exact ⟨rfl, rfl, rfl, rfl, rfl, rfl, rfl, rfl, rfl, rfl, rfl, rfl, rfl, rfl, rfl, rfl, rfl, rfl, rfl, rfl, rfl, rfl, rfl, rfl, rfl, rfl, rfl, rfl, rfl, rfl, rfl, rfl, rfl, rfl, rfl, rfl⟩

/-- Every field after `beginOp` (00_scope.md R14). -/
@[simp] theorem State.beginOp_fields (s : State) :
  (s.beginOp).cfg = s.cfg ∧ (s.beginOp).txnOpen = s.txnOpen ∧ (s.beginOp).csN = s.csN ∧ (s.beginOp).dc = s.dc ∧
    (s.beginOp).rstN = s.rstN ∧ (s.beginOp).sck = s.sck ∧ (s.beginOp).mosi = s.mosi ∧ (s.beginOp).spiHz = s.spiHz ∧
    (s.beginOp).count = s.count ∧ (s.beginOp).initialized = s.initialized ∧ (s.beginOp).fullMode = s.fullMode ∧
    (s.beginOp).powerOn = s.powerOn ∧ (s.beginOp).rotation = s.rotation ∧ (s.beginOp).status = s.status ∧
    (s.beginOp).sync1 = s.sync1 ∧ (s.beginOp).sync2 = s.sync2 ∧ (s.beginOp).busyLast = s.busyLast ∧
    (s.beginOp).buf = s.buf ∧ (s.beginOp).latched = s.latched ∧ (s.beginOp).position = 0 ∧ (s.beginOp).loopCtr = 0 ∧
    (s.beginOp).opTimeout = false ∧ (s.beginOp).opDone = false ∧ (s.beginOp).forced = false ∧
    (s.beginOp).opReady = s.opReady ∧ (s.beginOp).rspValid = s.rspValid ∧ (s.beginOp).rspWord = s.rspWord ∧
    (s.beginOp).rspRefused = s.rspRefused ∧ (s.beginOp).trace = s.trace ∧ (s.beginOp).traceBase = s.traceBase ∧
    (s.beginOp).panel = s.panel ∧ (s.beginOp).drawIx = s.drawIx ∧ (s.beginOp).levelIx = s.levelIx ∧
    (s.beginOp).freeIx = s.freeIx ∧ (s.beginOp).epoch = s.epoch ∧ (s.beginOp).agenda = s.agenda :=
  ⟨rfl, rfl, rfl, rfl, rfl, rfl, rfl, rfl, rfl, rfl, rfl, rfl, rfl, rfl, rfl, rfl, rfl, rfl, rfl, rfl, rfl, rfl, rfl, rfl, rfl, rfl, rfl, rfl, rfl, rfl, rfl, rfl, rfl, rfl, rfl, rfl⟩


/-- Every field after `clearMicro` (10_state.md R32). -/
@[simp] theorem State.clearMicro_fields (s : State) :
  (s.clearMicro).cfg = s.cfg ∧ (s.clearMicro).txnOpen = s.txnOpen ∧ (s.clearMicro).csN = s.csN ∧
    (s.clearMicro).dc = s.dc ∧ (s.clearMicro).rstN = s.rstN ∧ (s.clearMicro).sck = s.sck ∧
    (s.clearMicro).mosi = s.mosi ∧ (s.clearMicro).spiHz = s.spiHz ∧ (s.clearMicro).count = s.count ∧
    (s.clearMicro).initialized = s.initialized ∧ (s.clearMicro).fullMode = s.fullMode ∧
    (s.clearMicro).powerOn = s.powerOn ∧ (s.clearMicro).rotation = s.rotation ∧ (s.clearMicro).status = s.status ∧
    (s.clearMicro).sync1 = s.sync1 ∧ (s.clearMicro).sync2 = s.sync2 ∧ (s.clearMicro).busyLast = s.busyLast ∧
    (s.clearMicro).buf = s.buf ∧ (s.clearMicro).latched = none ∧ (s.clearMicro).position = 0 ∧
    (s.clearMicro).loopCtr = 0 ∧ (s.clearMicro).opTimeout = false ∧ (s.clearMicro).opDone = false ∧
    (s.clearMicro).forced = false ∧ (s.clearMicro).opReady = s.opReady ∧ (s.clearMicro).rspValid = s.rspValid ∧
    (s.clearMicro).rspWord = s.rspWord ∧ (s.clearMicro).rspRefused = s.rspRefused ∧ (s.clearMicro).trace = s.trace ∧
    (s.clearMicro).traceBase = s.traceBase ∧ (s.clearMicro).panel = s.panel ∧ (s.clearMicro).drawIx = s.drawIx ∧
    (s.clearMicro).levelIx = s.levelIx ∧ (s.clearMicro).freeIx = s.freeIx ∧ (s.clearMicro).epoch = s.epoch ∧
    (s.clearMicro).agenda = s.agenda :=
  ⟨rfl, rfl, rfl, rfl, rfl, rfl, rfl, rfl, rfl, rfl, rfl, rfl, rfl, rfl, rfl, rfl, rfl, rfl, rfl, rfl, rfl, rfl, rfl, rfl, rfl, rfl, rfl, rfl, rfl, rfl, rfl, rfl, rfl, rfl, rfl, rfl⟩

/-- What a response does (10_state.md R34). -/
theorem State.answer_eq (w : Word) (s : State) : s.answer w = { s with
    latched := none, position := 0, loopCtr := 0, opTimeout := false, opDone := false, forced := false,
    opReady := false, rspValid := true, rspWord := w, rspRefused := false } := by
  simp only [State.answer, State.clearMicro]

/-- Every field after `answer` (10_state.md R34). -/
@[simp] theorem State.answer_fields (w : Word) (s : State) :
  (s.answer w).cfg = s.cfg ∧ (s.answer w).txnOpen = s.txnOpen ∧ (s.answer w).csN = s.csN ∧ (s.answer w).dc = s.dc ∧
    (s.answer w).rstN = s.rstN ∧ (s.answer w).sck = s.sck ∧ (s.answer w).mosi = s.mosi ∧
    (s.answer w).spiHz = s.spiHz ∧ (s.answer w).count = s.count ∧ (s.answer w).initialized = s.initialized ∧
    (s.answer w).fullMode = s.fullMode ∧ (s.answer w).powerOn = s.powerOn ∧ (s.answer w).rotation = s.rotation ∧
    (s.answer w).status = s.status ∧ (s.answer w).sync1 = s.sync1 ∧ (s.answer w).sync2 = s.sync2 ∧
    (s.answer w).busyLast = s.busyLast ∧ (s.answer w).buf = s.buf ∧ (s.answer w).latched = none ∧
    (s.answer w).position = 0 ∧ (s.answer w).loopCtr = 0 ∧ (s.answer w).opTimeout = false ∧
    (s.answer w).opDone = false ∧ (s.answer w).forced = false ∧ (s.answer w).opReady = false ∧
    (s.answer w).rspValid = true ∧ (s.answer w).rspWord = w ∧ (s.answer w).rspRefused = false ∧
    (s.answer w).trace = s.trace ∧ (s.answer w).traceBase = s.traceBase ∧ (s.answer w).panel = s.panel ∧
    (s.answer w).drawIx = s.drawIx ∧ (s.answer w).levelIx = s.levelIx ∧ (s.answer w).freeIx = s.freeIx ∧
    (s.answer w).epoch = s.epoch ∧ (s.answer w).agenda = s.agenda := by
  rw [State.answer_eq]
  exact ⟨rfl, rfl, rfl, rfl, rfl, rfl, rfl, rfl, rfl, rfl, rfl, rfl, rfl, rfl, rfl, rfl, rfl, rfl, rfl, rfl, rfl, rfl, rfl, rfl, rfl, rfl, rfl, rfl, rfl, rfl, rfl, rfl, rfl, rfl, rfl, rfl⟩

/-- What a refusal does (60_exceptions.md R301). -/
theorem State.refuse_eq (f : Flag) (s : State) : s.refuse f = { s with
    status := s.status ||| flagMask f, latched := none, position := 0, loopCtr := 0, opTimeout := false, opDone := false,
    forced := false, opReady := false, rspValid := true, rspWord := 0#32, rspRefused := true } := by
  simp only [State.refuse, State.raise, State.answer_eq]

/-- Every field after `refuse` (60_exceptions.md R301). -/
@[simp] theorem State.refuse_fields (f : Flag) (s : State) :
  (s.refuse f).cfg = s.cfg ∧ (s.refuse f).txnOpen = s.txnOpen ∧ (s.refuse f).csN = s.csN ∧ (s.refuse f).dc = s.dc ∧
    (s.refuse f).rstN = s.rstN ∧ (s.refuse f).sck = s.sck ∧ (s.refuse f).mosi = s.mosi ∧
    (s.refuse f).spiHz = s.spiHz ∧ (s.refuse f).count = s.count ∧ (s.refuse f).initialized = s.initialized ∧
    (s.refuse f).fullMode = s.fullMode ∧ (s.refuse f).powerOn = s.powerOn ∧ (s.refuse f).rotation = s.rotation ∧
    (s.refuse f).status = s.status ||| flagMask f ∧ (s.refuse f).sync1 = s.sync1 ∧ (s.refuse f).sync2 = s.sync2 ∧
    (s.refuse f).busyLast = s.busyLast ∧ (s.refuse f).buf = s.buf ∧ (s.refuse f).latched = none ∧
    (s.refuse f).position = 0 ∧ (s.refuse f).loopCtr = 0 ∧ (s.refuse f).opTimeout = false ∧
    (s.refuse f).opDone = false ∧ (s.refuse f).forced = false ∧ (s.refuse f).opReady = false ∧
    (s.refuse f).rspValid = true ∧ (s.refuse f).rspWord = 0#32 ∧ (s.refuse f).rspRefused = true ∧
    (s.refuse f).trace = s.trace ∧ (s.refuse f).traceBase = s.traceBase ∧ (s.refuse f).panel = s.panel ∧
    (s.refuse f).drawIx = s.drawIx ∧ (s.refuse f).levelIx = s.levelIx ∧ (s.refuse f).freeIx = s.freeIx ∧
    (s.refuse f).epoch = s.epoch ∧ (s.refuse f).agenda = s.agenda := by
  rw [State.refuse_eq]
  exact ⟨rfl, rfl, rfl, rfl, rfl, rfl, rfl, rfl, rfl, rfl, rfl, rfl, rfl, rfl, rfl, rfl, rfl, rfl, rfl, rfl, rfl, rfl, rfl, rfl, rfl, rfl, rfl, rfl, rfl, rfl, rfl, rfl, rfl, rfl, rfl, rfl⟩

/-- Every field after `retire` (10_state.md R34). -/
@[simp] theorem State.retire_fields (s : State) :
  (s.retire).cfg = s.cfg ∧ (s.retire).txnOpen = s.txnOpen ∧ (s.retire).csN = s.csN ∧ (s.retire).dc = s.dc ∧
    (s.retire).rstN = s.rstN ∧ (s.retire).sck = s.sck ∧ (s.retire).mosi = s.mosi ∧ (s.retire).spiHz = s.spiHz ∧
    (s.retire).count = s.count ∧ (s.retire).initialized = s.initialized ∧ (s.retire).fullMode = s.fullMode ∧
    (s.retire).powerOn = s.powerOn ∧ (s.retire).rotation = s.rotation ∧ (s.retire).status = s.status ∧
    (s.retire).sync1 = s.sync1 ∧ (s.retire).sync2 = s.sync2 ∧ (s.retire).busyLast = s.busyLast ∧
    (s.retire).buf = s.buf ∧ (s.retire).latched = s.latched ∧ (s.retire).position = s.position ∧
    (s.retire).loopCtr = s.loopCtr ∧ (s.retire).opTimeout = s.opTimeout ∧ (s.retire).opDone = s.opDone ∧
    (s.retire).forced = s.forced ∧ (s.retire).opReady = true ∧ (s.retire).rspValid = false ∧
    (s.retire).rspWord = s.rspWord ∧ (s.retire).rspRefused = s.rspRefused ∧ (s.retire).trace = s.trace ∧
    (s.retire).traceBase = s.traceBase ∧ (s.retire).panel = s.panel ∧ (s.retire).drawIx = s.drawIx ∧
    (s.retire).levelIx = s.levelIx ∧ (s.retire).freeIx = s.freeIx ∧ (s.retire).epoch = s.epoch ∧
    (s.retire).agenda = s.agenda :=
  ⟨rfl, rfl, rfl, rfl, rfl, rfl, rfl, rfl, rfl, rfl, rfl, rfl, rfl, rfl, rfl, rfl, rfl, rfl, rfl, rfl, rfl, rfl, rfl, rfl, rfl, rfl, rfl, rfl, rfl, rfl, rfl, rfl, rfl, rfl, rfl, rfl⟩

/-- What accepting an op word does (10_state.md R34). -/
theorem State.accept_eq (w : OpWord) (s : State) : s.accept w = { s with
    rspValid := false, opReady := false, latched := some w } := by
  simp only [State.accept, State.retire]

/-- Every field after `accept` (10_state.md R34). -/
@[simp] theorem State.accept_fields (w : OpWord) (s : State) :
  (s.accept w).cfg = s.cfg ∧ (s.accept w).txnOpen = s.txnOpen ∧ (s.accept w).csN = s.csN ∧ (s.accept w).dc = s.dc ∧
    (s.accept w).rstN = s.rstN ∧ (s.accept w).sck = s.sck ∧ (s.accept w).mosi = s.mosi ∧
    (s.accept w).spiHz = s.spiHz ∧ (s.accept w).count = s.count ∧ (s.accept w).initialized = s.initialized ∧
    (s.accept w).fullMode = s.fullMode ∧ (s.accept w).powerOn = s.powerOn ∧ (s.accept w).rotation = s.rotation ∧
    (s.accept w).status = s.status ∧ (s.accept w).sync1 = s.sync1 ∧ (s.accept w).sync2 = s.sync2 ∧
    (s.accept w).busyLast = s.busyLast ∧ (s.accept w).buf = s.buf ∧ (s.accept w).latched = some w ∧
    (s.accept w).position = s.position ∧ (s.accept w).loopCtr = s.loopCtr ∧ (s.accept w).opTimeout = s.opTimeout ∧
    (s.accept w).opDone = s.opDone ∧ (s.accept w).forced = s.forced ∧ (s.accept w).opReady = false ∧
    (s.accept w).rspValid = false ∧ (s.accept w).rspWord = s.rspWord ∧ (s.accept w).rspRefused = s.rspRefused ∧
    (s.accept w).trace = s.trace ∧ (s.accept w).traceBase = s.traceBase ∧ (s.accept w).panel = s.panel ∧
    (s.accept w).drawIx = s.drawIx ∧ (s.accept w).levelIx = s.levelIx ∧ (s.accept w).freeIx = s.freeIx ∧
    (s.accept w).epoch = s.epoch ∧ (s.accept w).agenda = s.agenda := by
  rw [State.accept_eq]
  exact ⟨rfl, rfl, rfl, rfl, rfl, rfl, rfl, rfl, rfl, rfl, rfl, rfl, rfl, rfl, rfl, rfl, rfl, rfl, rfl, rfl, rfl, rfl, rfl, rfl, rfl, rfl, rfl, rfl, rfl, rfl, rfl, rfl, rfl, rfl, rfl, rfl⟩

end Sys2Proof.Machine
end

