-- ==== Sys2Proof/Laws/Ops.lean ====
section
/-! SUPPORT. For each shared operation of the framer and the sequencer, once, all that it does: closed forms of a run of shifted
bytes, of a transaction, of the bounded busy wait and of the helpers that are one transaction. -/

namespace Sys2Proof.Machine

open Sys2Proof

/-! ### Samples -/

/-- A state's next samples depend on the panel's script and the number of the next sample alone. -/
theorem State.sampleAt_def (s : State) (k : Nat) : s.sampleAt k = drawOf s.panel (s.drawIx + k) := rfl

/-! ### Bytes and transactions -/

/-- What shifting a list of bytes does (40_framer.md R142). -/
theorem State.shiftAll_eq (bs : List WireByte) (s : State) : bs.foldl State.shift s = { s with
    dc := s.dc || !bs.isEmpty, sck := s.sck && bs.isEmpty,
    mosi := if bs.isEmpty then s.mosi else Config.mosiIdle (s.freeIx + (bs.length - 1)),
    freeIx := s.freeIx + bs.length, trace := s.trace ++ bs.map wireEvent, position := s.position + bs.length } := by
  induction bs generalizing s with
  | nil => simp
  | cons b bs ih =>
    rw [List.foldl_cons, ih, State.shift_eq]
    cases bs with
    | nil => simp
    | cons c cs => simp [Nat.add_comm, Nat.add_left_comm]

/-- What a transaction does (40_framer.md R142 to R144): one busy sample, the bytes between `CsOn` and `CsOff`. -/
theorem State.txn_eq (bs : List WireByte) (s : State) : s.txn bs = { s with
    txnOpen := false, csN := true, dc := s.dc || !bs.isEmpty, sck := s.sck && bs.isEmpty,
    mosi := if bs.isEmpty then s.mosi else Config.mosiIdle (s.freeIx + (bs.length - 1)),
    freeIx := s.freeIx + bs.length,
    sync1 := Config.syncStage s.drawIx, sync2 := s.sampleAt 0, busyLast := s.sampleAt 0, drawIx := s.drawIx + 1,
    status := if s.sampleAt 0 then s.status ||| flagMask .hazCmdWhileBusy else s.status,
    trace := s.trace ++ (.csOn (s.sampleAt 0) :: bs.map wireEvent ++ [.csOff]),
    position := s.position + (bs.length + 2) } := by
  rw [State.txn, State.shiftAll_eq]
  unfold State.txnEnd State.emit
  simp only [State.txnBegin_fields]
  simp [Nat.add_comm, Nat.add_left_comm]

/-! ### The bounded busy wait (41_sequencer.md R184) -/

/-- How many of the next `n` samples, from number `ix` on, read busy before one reads idle. -/
def busyRun (panel : List Bool) : (n ix : Nat) → Nat
  | 0, _ => 0
  | n + 1, ix => if drawOf panel ix then busyRun panel n (ix + 1) + 1 else 0

/-- The events of `k` polls that read busy, each with its delay. -/
def busyPollEvents : Nat → List Event
  | 0 => []
  | k + 1 => .poll true :: .delay pollMs :: busyPollEvents k

theorem busyRun_le (panel : List Bool) (n ix : Nat) : busyRun panel n ix ≤ n := by
  induction n generalizing ix with
  | zero => simp [busyRun]
  | succ n ih =>
    unfold busyRun
    split
    · exact Nat.succ_le_succ (ih _)
    · exact Nat.zero_le _

/-- The samples that `busyRun` counts read busy. -/
theorem busyRun_busy (panel : List Bool) (n ix j : Nat) (h : j < busyRun panel n ix) : drawOf panel (ix + j) = true := by
  induction n generalizing ix j with
  | zero => simp [busyRun] at h
  | succ n ih =>
    unfold busyRun at h
    split at h
    · cases j with
      | zero => simpa
      | succ j => simpa [Nat.add_assoc, Nat.add_comm 1] using ih (ix + 1) j (Nat.lt_of_succ_lt_succ h)
    · exact absurd h (Nat.not_lt_zero _)

/-- The sample after those that `busyRun` counts reads idle, unless it counted all. -/
theorem busyRun_idle (panel : List Bool) (n ix : Nat) (h : busyRun panel n ix < n) :
    drawOf panel (ix + busyRun panel n ix) = false := by
  induction n generalizing ix with
  | zero => exact absurd h (Nat.not_lt_zero _)
  | succ n ih =>
    unfold busyRun at h ⊢
    split at h
    · rename_i hb
      simp only [hb, if_true]
      simpa [Nat.add_assoc, Nat.add_comm 1] using ih (ix + 1) (Nat.lt_of_succ_lt_succ h)
    · rename_i hb
      simp [hb]

/-- `busyRun` is the number `k` where `k` samples read busy and the next one idle. -/
theorem busyRun_unique (panel : List Bool) (n ix k : Nat) (hk : k < n) (hb : ∀ j, j < k → drawOf panel (ix + j) = true)
    (hi : drawOf panel (ix + k) = false) : busyRun panel n ix = k := by
  induction n generalizing ix k with
  | zero => exact absurd hk (Nat.not_lt_zero _)
  | succ n ih =>
    unfold busyRun
    cases k with
    | zero => simp [show drawOf panel ix = false by simpa using hi]
    | succ k =>
      have h0 : drawOf panel ix = true := by simpa using hb 0 (Nat.succ_pos _)
      rw [if_pos h0, ih (ix + 1) k (Nat.lt_of_succ_lt_succ hk)]
      · intro j hj
        simpa [Nat.add_assoc, Nat.add_comm 1] using hb (j + 1) (Nat.succ_lt_succ hj)
      · simpa [Nat.add_assoc, Nat.add_comm 1] using hi

/-- `busyRun` counts all where all read busy. -/
theorem busyRun_all (panel : List Bool) (n ix : Nat) (hb : ∀ j, j < n → drawOf panel (ix + j) = true) :
    busyRun panel n ix = n := by
  induction n generalizing ix with
  | zero => rfl
  | succ n ih =>
    unfold busyRun
    rw [if_pos (by simpa using hb 0 (Nat.succ_pos _)), ih (ix + 1)]
    intro j hj
    simpa [Nat.add_assoc, Nat.add_comm 1] using hb (j + 1) (Nat.succ_lt_succ hj)

/-- What the rest of a busy wait does that comes to a sample that reads idle. -/
theorem State.waitLoop_completes (n : Nat) (s : State) (h : busyRun s.panel n s.drawIx < n) :
    State.waitLoop n s = { s with
      sync1 := Config.syncStage (s.drawIx + busyRun s.panel n s.drawIx), sync2 := false, busyLast := false, loopCtr := 0,
      drawIx := s.drawIx + (busyRun s.panel n s.drawIx + 1),
      trace := s.trace ++ (busyPollEvents (busyRun s.panel n s.drawIx) ++ [.poll false]),
      position := s.position + (2 * busyRun s.panel n s.drawIx + 1) } := by
  induction n generalizing s with
  | zero => exact absurd h (Nat.not_lt_zero _)
  | succ n ih =>
    unfold State.waitLoop
    simp only [State.poll_eq, State.delay, State.emit, State.sampleAt, Nat.add_zero]
    unfold busyRun at h ⊢
    rcases Bool.eq_false_or_eq_true (drawOf s.panel s.drawIx) with hd | hd
    · simp only [hd, if_true] at h ⊢
      rw [ih _ (by simpa using Nat.lt_of_succ_lt_succ h)]
      dsimp only
      congr 1 <;> first | omega | (congr 1; omega) | simp [busyPollEvents]
    · simp [hd, busyPollEvents]

/-- What the rest of a busy wait does whose `n` samples all read busy. -/
theorem State.waitLoop_timesOut (n : Nat) (s : State) (h : busyRun s.panel n s.drawIx = n) :
    State.waitLoop n s = { s with
      sync1 := if n = 0 then s.sync1 else Config.syncStage (s.drawIx + (n - 1)),
      sync2 := if n = 0 then s.sync2 else true, busyLast := if n = 0 then s.busyLast else true, loopCtr := 0,
      drawIx := s.drawIx + n, status := s.status ||| flagMask .waitTimeout, opTimeout := true,
      trace := s.trace ++ busyPollEvents n, position := s.position + 2 * n } := by
  induction n generalizing s with
  | zero => simp [State.waitLoop, State.raise, busyPollEvents]
  | succ n ih =>
    unfold State.waitLoop
    simp only [State.poll_eq, State.delay, State.emit, State.sampleAt, Nat.add_zero]
    unfold busyRun at h
    rcases Bool.eq_false_or_eq_true (drawOf s.panel s.drawIx) with hd | hd
    · simp only [hd, if_true] at h ⊢
      rw [ih _ (by simpa using Nat.succ.inj h)]
      cases n with
      | zero => simp [busyPollEvents]
      | succ m =>
        dsimp only
        congr 1 <;> first | omega | (simp [busyPollEvents]; done) | (simp; congr 1; omega)
    · simp [hd] at h

/-- What a busy wait does that completes (R184, R185). -/
theorem State.waitBusy_completes (s : State) (h : busyRun s.panel maxPolls s.drawIx < maxPolls) :
    s.waitBusy = { s with
      sync1 := Config.syncStage (s.drawIx + busyRun s.panel maxPolls s.drawIx), sync2 := false, busyLast := false, loopCtr := 0,
      drawIx := s.drawIx + (busyRun s.panel maxPolls s.drawIx + 1),
      trace := s.trace ++ (busyPollEvents (busyRun s.panel maxPolls s.drawIx) ++ [.poll false]),
      position := s.position + (2 * busyRun s.panel maxPolls s.drawIx + 1) } := by
  exact State.waitLoop_completes maxPolls { s with loopCtr := 0 } h

/-- What a busy wait does that hits its cap (R184, R185). -/
theorem State.waitBusy_timesOut (s : State) (h : busyRun s.panel maxPolls s.drawIx = maxPolls) :
    s.waitBusy = { s with
      sync1 := Config.syncStage (s.drawIx + 399), sync2 := true, busyLast := true, loopCtr := 0,
      drawIx := s.drawIx + maxPolls, status := s.status ||| flagMask .waitTimeout, opTimeout := true,
      trace := s.trace ++ busyPollEvents maxPolls, position := s.position + 2 * maxPolls } := by
  exact State.waitLoop_timesOut maxPolls { s with loopCtr := 0 } h

/-- The busy wait whose first sample reads idle polls once. -/
theorem State.waitBusy_idle (s : State) (h : s.sampleAt 0 = false) :
    s.waitBusy = { s with
      sync1 := Config.syncStage s.drawIx, sync2 := false, busyLast := false, loopCtr := 0, drawIx := s.drawIx + 1,
      trace := s.trace ++ [.poll false], position := s.position + 1 } := by
  have hr : busyRun s.panel maxPolls s.drawIx = 0 :=
    busyRun_unique s.panel maxPolls s.drawIx 0 (by decide) (fun j hj => absurd hj (Nat.not_lt_zero _)) h
  rw [State.waitBusy_completes s (by rw [hr]; decide), hr]
  simp [busyPollEvents]

end Sys2Proof.Machine
end

