-- ==== Sys2Proof/Laws/Helpers.lean ====
section
/-! SUPPORT. What an operation can do, said once: every operation is a chain of the primitive updates listed in `OpClosed`. A relation
between states that each of these keeps to (and that is reflexive and transitive) relates every state to the one that any
instruction leaves. Frames, invariants and facts about the trace follow by choosing the relation. -/

namespace Sys2Proof.Machine

open Sys2Proof

/-- The byte lists that the protocol helpers send as one transaction (41_sequencer.md R197). -/
inductive HelperBytes (p : Params) : List WireByte → Prop where
  | config : HelperBytes p (p.configBlock.flatMap configEntryBytes)
  | ramArea (xs xe : Byte) (ys ye : Half) : HelperBytes p (ramAreaBytes xs xe ys ye)
  | ramPointer (x : Byte) (y : Half) : HelperBytes p (ramPointerBytes x y)
  | power (ctrl : Byte) : HelperBytes p (powerBytes ctrl)
  | lut (l : Vector Byte 30) : HelperBytes p (lutBytes l)
  | activation (ctrl : Byte) : HelperBytes p (activationBytes ctrl)
  | burst (image : List Byte) : HelperBytes p (burstBytes image)

/-- A relation that the primitive updates inside the protocol helpers and engine bodies keep to. The helpers run with no
transaction open (40_framer.md R147). -/
structure HelperClosed (R : State → State → Prop) : Prop where
  refl : ∀ s, R s s
  trans : ∀ s t u, R s t → R t u → R s u
  raise : ∀ f s, R s (s.raise f)
  txn : ∀ bs s, s.txnOpen = false → HelperBytes s.cfg bs → R s (s.txn bs)
  wait : ∀ s, R s s.waitBusy
  poll : ∀ s, R s s.poll
  power : ∀ (b : Bool) s, R s { s with powerOn := b }
  mode : ∀ (f : Bool) s, R s { s with opDone := true, initialized := true, fullMode := f }
  done : ∀ (b : Bool) s, R s { s with opDone := b }
  count : ∀ (c : BitVec 8) s, c.toNat ≤ paramThreshold s.cfg → R s { s with count := c }
  cycled : ∀ (b : Bool) s, R s { s with count := 0#8, forced := true, opDone := b }

/-- A relation that every primitive update of a host operation or a wire command keeps to. -/
structure OpClosed (R : State → State → Prop) : Prop extends HelperClosed R where
  beginOp : ∀ s, R s s.beginOp
  answer : ∀ w s, R s (s.answer w)
  refused : ∀ f s, R s (s.refuse f)
  clearMicro : ∀ s, R s s.clearMicro
  busConfig : ∀ f s, f ≠ 0#32 ∨ f = s.spiHz → R s (s.busConfig f)
  resetSeq : ∀ s, R s s.resetSeq
  restore : ∀ snap s, R s (s.restore snap)
  txnBegin : ∀ s, s.txnOpen = false → R s s.txnBegin
  txnEnd : ∀ s, s.txnOpen = true → R s s.txnEnd
  shift : ∀ w s, s.txnOpen = true → R s (s.shift w)
  txnOne : ∀ w s, s.txnOpen = false → R s (s.txn [w])
  rotate : ∀ (r : BitVec 2) s, R s { s with rotation := r }
  drawAt : ∀ x y c s, inRange s.cfg s.rotation x y = true → R s (s.drawAt x y c)
  fillBuf : ∀ v s, R s (s.fillBuf v)
  clearFlags : ∀ m s, R s (s.clearFlags m)

/-! ### The branches of `do_update` (42_engine.md R226) -/

theorem State.doUpdate_sync (s : State) (h : s.cfg.syncMode = true) : s.doUpdate = (s.performUpdate, true) := by
  rw [State.doUpdate, if_pos h]

theorem State.doUpdate_dropped (s : State) (h : s.cfg.syncMode = false) (hb : s.sampleAt 0 = true) :
    s.doUpdate = (s.poll.raise .updateDropped, false) := by
  rw [State.doUpdate, if_neg (by simp [h])]
  dsimp only
  rw [if_pos (by simpa using hb)]

theorem State.doUpdate_async (s : State) (h : s.cfg.syncMode = false) (hb : s.sampleAt 0 = false) :
    s.doUpdate = (s.poll.performUpdate, true) := by
  rw [State.doUpdate, if_neg (by simp [h])]
  dsimp only
  rw [if_neg (by simp [hb])]

/-- The relation, kept with no transaction open at either end. -/
def Quiet (R : State → State → Prop) (s t : State) : Prop := s.txnOpen = false → R s t ∧ t.txnOpen = false

theorem waitBusy_txnOpen (s : State) : s.waitBusy.txnOpen = s.txnOpen := by
  rcases Nat.lt_or_ge (busyRun s.panel maxPolls s.drawIx) maxPolls with h | h
  · rw [State.waitBusy_completes s h]
  · rw [State.waitBusy_timesOut s (Nat.le_antisymm (busyRun_le _ _ _) h)]

section Helpers

variable {R : State → State → Prop} (H : HelperClosed R)

include H

theorem HelperClosed.quiet_refl (s : State) : Quiet R s s := fun h => ⟨H.refl s, h⟩

theorem HelperClosed.quiet_trans {s t u : State} (h1 : Quiet R s t) (h2 : Quiet R t u) : Quiet R s u := fun h =>
  ⟨H.trans s t u (h1 h).1 (h2 (h1 h).2).1, (h2 (h1 h).2).2⟩

theorem HelperClosed.quiet_raise (f : Flag) (s : State) : Quiet R s (s.raise f) := fun h => ⟨H.raise f s, h⟩

theorem HelperClosed.quiet_raiseIf (c : Bool) (f : Flag) (s : State) : Quiet R s (s.raiseIf c f) := by
  unfold State.raiseIf
  split
  · exact H.quiet_raise f s
  · exact H.quiet_refl s

theorem HelperClosed.quiet_txn (bs : List WireByte) (s : State) (hb : HelperBytes s.cfg bs) : Quiet R s (s.txn bs) := fun h =>
  ⟨H.txn bs s h hb, by rw [State.txn_eq]⟩

theorem HelperClosed.quiet_wait (s : State) : Quiet R s s.waitBusy := fun h => ⟨H.wait s, by rw [waitBusy_txnOpen, h]⟩

theorem HelperClosed.quiet_poll (s : State) : Quiet R s s.poll := fun h => ⟨H.poll s, by simpa using h⟩

theorem HelperClosed.quiet_power (b : Bool) (s : State) : Quiet R s { s with powerOn := b } := fun h => ⟨H.power b s, h⟩

theorem HelperClosed.quiet_mode (f : Bool) (s : State) :
    Quiet R s { s with opDone := true, initialized := true, fullMode := f } := fun h => ⟨H.mode f s, h⟩

theorem HelperClosed.quiet_done (b : Bool) (s : State) : Quiet R s { s with opDone := b } := fun h => ⟨H.done b s, h⟩

theorem HelperClosed.quiet_count (c : BitVec 8) (s : State) (hc : c.toNat ≤ paramThreshold s.cfg) :
    Quiet R s { s with count := c } := fun h => ⟨H.count c s hc, h⟩

theorem HelperClosed.quiet_cycled (b : Bool) (s : State) :
    Quiet R s { s with count := 0#8, forced := true, opDone := b } := fun h => ⟨H.cycled b s, h⟩

theorem HelperClosed.quiet_doIf (c : Bool) (f : State → State) (s : State) (hf : Quiet R s (f s)) : Quiet R s (s.doIf c f) := by
  unfold State.doIf
  split
  · exact hf
  · exact H.quiet_refl s

theorem HelperClosed.quiet_setAddresses (s : State) : Quiet R s s.setAddresses :=
  H.quiet_trans (H.quiet_txn _ s (.ramArea _ _ _ _)) (H.quiet_txn _ _ (.ramPointer _ _))

theorem HelperClosed.quiet_powerOnSeq (s : State) : Quiet R s s.powerOnSeq :=
  H.quiet_trans (H.quiet_trans (H.quiet_trans (H.quiet_raiseIf _ _ s) (H.quiet_txn _ _ (.power _))) (H.quiet_power true _))
    (H.quiet_doIf _ _ _ (H.quiet_wait _))

theorem HelperClosed.quiet_powerOffSeq (s : State) : Quiet R s s.powerOffSeq :=
  H.quiet_trans (H.quiet_trans (H.quiet_trans (H.quiet_raiseIf _ _ s) (H.quiet_txn _ _ (.power _))) (H.quiet_power false _))
    (H.quiet_doIf _ _ _ (H.quiet_wait _))

theorem HelperClosed.quiet_writeLut (f : Bool) (s : State) : Quiet R s (s.writeLut f) := H.quiet_txn _ s (.lut _)

theorem HelperClosed.quiet_writeDisplayData (s : State) : Quiet R s s.writeDisplayData :=
  H.quiet_trans (H.quiet_wait s) (H.quiet_txn _ _ (.burst _))

theorem HelperClosed.quiet_transfer (s : State) : Quiet R s s.transfer :=
  H.quiet_trans (H.quiet_doIf _ _ s (H.quiet_setAddresses s)) (H.quiet_writeDisplayData _)

theorem HelperClosed.quiet_activate (s : State) : Quiet R s s.activate := by
  unfold State.activate
  split
  · exact H.quiet_txn _ s (.activation _)
  · exact H.quiet_txn _ s (.activation _)

theorem HelperClosed.quiet_enterMode (f : Bool) (s : State) : Quiet R s (s.enterMode f) := by
  unfold State.enterMode
  split
  · exact H.quiet_refl s
  · refine H.quiet_trans ?_ (H.quiet_doIf _ _ _ (H.quiet_powerOffSeq _))
    refine H.quiet_trans ?_ (H.quiet_powerOnSeq _)
    refine H.quiet_trans ?_ (H.quiet_writeLut f _)
    exact H.quiet_trans (H.quiet_mode f s) (H.quiet_doIf _ _ _ (H.quiet_setAddresses _))

theorem HelperClosed.quiet_performUpdate (s : State) : Quiet R s s.performUpdate := by
  unfold State.performUpdate
  extract_lets s1 s2 s3 s4
  have h1 : Quiet R s s1 := H.quiet_raiseIf _ _ s
  have h2 : Quiet R s1 (s1.doIf (!s1.powerOn) State.powerOnSeq) := H.quiet_doIf _ _ _ (H.quiet_powerOnSeq _)
  have h3 : Quiet R s1 s2 := H.quiet_trans (H.quiet_trans h2 (H.quiet_transfer _)) (H.quiet_activate _)
  have h4 : Quiet R s2 s3 := H.quiet_doIf _ _ _ (H.quiet_transfer _)
  have h5 : Quiet R s3 s4 := H.quiet_doIf _ _ _ (H.quiet_wait _)
  exact H.quiet_trans (H.quiet_trans (H.quiet_trans (H.quiet_trans h1 h3) h4) h5) (H.quiet_doIf _ _ _ (H.quiet_powerOffSeq _))

theorem HelperClosed.quiet_doUpdate (s : State) : Quiet R s s.doUpdate.1 := by
  cases h : s.cfg.syncMode with
  | true =>
    rw [State.doUpdate_sync s h]
    dsimp only
    exact H.quiet_performUpdate s
  | false =>
    cases hb : s.sampleAt 0 with
    | true =>
      rw [State.doUpdate_dropped s h hb]
      dsimp only
      exact H.quiet_trans (H.quiet_poll s) (H.quiet_raise .updateDropped s.poll)
    | false =>
      rw [State.doUpdate_async s h hb]
      dsimp only
      exact H.quiet_trans (H.quiet_poll s) (H.quiet_performUpdate s.poll)

theorem HelperClosed.quiet_updateOnce (s : State) : Quiet R s s.updateOnce := by
  unfold State.updateOnce
  have h := H.quiet_doUpdate s
  generalize s.doUpdate = u at h
  exact H.quiet_trans h (H.quiet_done u.2 u.1)

theorem HelperClosed.quiet_forcedCycle (s : State) : Quiet R s s.forcedCycle := by
  unfold State.forcedCycle
  extract_lets u1 u2
  have h1 : Quiet R s u1.1 := H.quiet_doUpdate s
  have h2 : Quiet R u1.1 u2.1 :=
    H.quiet_trans (H.quiet_trans (H.quiet_enterMode true u1.1) (H.quiet_wait _)) (H.quiet_doUpdate _)
  have h3 := H.quiet_trans (H.quiet_trans h1 h2) (H.quiet_enterMode false u2.1)
  clear_value u1 u2
  exact H.quiet_trans h3 (H.quiet_cycled _ _)

theorem HelperClosed.quiet_updatePartOrFull (s : State) : Quiet R s s.updatePartOrFull := by
  unfold State.updatePartOrFull
  dsimp only
  split
  · exact H.quiet_forcedCycle s
  · rename_i hc
    refine H.quiet_trans (H.quiet_count _ s ?_) (H.quiet_updateOnce _)
    rw [BitVec.toNat_ofNat]
    exact Nat.le_trans (Nat.mod_le _ _) (Nat.le_of_lt (Nat.lt_of_not_le hc))

end Helpers

section Operations

variable {R : State → State → Prop} (H : OpClosed R)

include H

theorem OpClosed.unless (bad : Bool) (f : Flag) (body : State → State) (s : State)
    (h : bad = false → R s.beginOp (body s.beginOp)) : R s (s.unless bad f body) := by
  unfold State.unless
  cases bad with
  | true => exact H.refused f s
  | false => exact H.trans _ _ _ (H.beginOp s) (h rfl)

theorem OpClosed.initBus (s : State) : R s s.initBus ∧ s.initBus.txnOpen = false := by
  unfold State.initBus State.txConfig
  have h1 : R s (s.busConfig s.spiHz).resetSeq := H.trans _ _ _ (H.busConfig _ s (.inr rfl)) (H.resetSeq _)
  have h2 := H.toHelperClosed.quiet_txn _ (s.busConfig s.spiHz).resetSeq .config (by simp)
  exact ⟨H.trans _ _ _ h1 h2.1, h2.2⟩

theorem OpClosed.wireCommand (b : Byte) (s : State) : R s (s.wireCommand b) := by
  unfold State.wireCommand
  split
  · rename_i h
    exact H.trans _ _ _ (H.trans _ _ _ (H.beginOp s) (H.shift _ _ (by simpa using h))) (H.clearMicro _)
  · exact H.raise _ s

/-- What any instruction does keeps to a closed relation. -/
theorem OpClosed.exec (i : Instr) (s t : State) (h : exec i s = .next t) : R s t := by
  have closed : ∀ b : Bool, s.txnOpen = b → s.beginOp.txnOpen = b := fun b hb => by simpa using hb
  cases i <;> simp only [Machine.exec] at h
  case busReset =>
    cases h
    exact H.trans _ _ _ (H.trans _ _ _ (H.beginOp s) (H.resetSeq _)) (H.answer _ _)
  case busInit f =>
    cases h
    refine H.unless _ _ _ s fun hf => ?_
    exact H.trans _ _ _ (H.trans _ _ _ (H.busConfig f _ (.inl (by simpa using hf))) (H.resetSeq _)) (H.answer _ _)
  case txnStart =>
    cases h
    exact H.unless _ _ _ s fun ho => H.trans _ _ _ (H.txnBegin _ (closed _ ho)) (H.answer _ _)
  case txnEnd =>
    cases h
    exact H.unless _ _ _ s fun ho => H.trans _ _ _ (H.txnEnd _ (closed _ (by simpa using ho))) (H.answer _ _)
  case wcmd b =>
    cases h
    exact H.unless _ _ _ s fun ho => H.trans _ _ _ (H.shift _ _ (closed _ (by simpa using ho))) (H.answer _ _)
  case wdata b =>
    cases h
    exact H.unless _ _ _ s fun ho => H.trans _ _ _ (H.shift _ _ (closed _ (by simpa using ho))) (H.answer _ _)
  case wcmdT b =>
    cases h
    exact H.unless _ _ _ s fun ho => H.trans _ _ _ (H.txnOne _ _ (closed _ ho)) (H.answer _ _)
  case wdataT b =>
    cases h
    exact H.unless _ _ _ s fun ho => H.trans _ _ _ (H.txnOne _ _ (closed _ ho)) (H.answer _ _)
  case init =>
    cases h
    exact H.trans _ _ _ (H.trans _ _ _ (H.beginOp s) (H.initBus _).1) (H.answer _ _)
  case initS snap =>
    cases h
    exact H.trans _ _ _ (H.trans _ _ _ (H.trans _ _ _ (H.beginOp s) (H.initBus _).1) (H.restore _ _)) (H.answer _ _)
  case enterFull =>
    cases h
    exact H.unless _ _ _ s fun ho => H.trans _ _ _ (H.quiet_enterMode _ _ (closed _ ho)).1 (H.answer _ _)
  case enterPartial =>
    cases h
    exact H.unless _ _ _ s fun ho => H.trans _ _ _ (H.quiet_enterMode _ _ (closed _ ho)).1 (H.answer _ _)
  case drawPixel x y c =>
    cases h
    refine H.trans _ _ _ (H.trans _ _ _ (H.beginOp s) ?_) (H.answer _ _)
    unfold State.doIf
    split
    · rename_i hr
      exact H.drawAt _ _ _ _ (by simpa using hr)
    · exact H.refl _
  case fill c =>
    cases h
    exact H.trans _ _ _ (H.trans _ _ _ (H.beginOp s) (H.fillBuf _ _)) (H.answer _ _)
  case update =>
    cases h
    exact H.unless _ _ _ s fun ho => H.trans _ _ _ (H.quiet_updateOnce _ (closed _ ho)).1 (H.answer _ _)
  case updatePf =>
    cases h
    exact H.unless _ _ _ s fun ho => H.trans _ _ _ (H.quiet_updatePartOrFull _ (closed _ ho)).1 (H.answer _ _)
  case isBusy =>
    cases h
    exact H.trans _ _ _ (H.trans _ _ _ (H.beginOp s) (H.poll _)) (H.answer _ _)
  case waitBusy =>
    cases h
    exact H.trans _ _ _ (H.trans _ _ _ (H.trans _ _ _ (H.beginOp s) (H.wait _)) (H.done _ _)) (H.answer _ _)
  case setRotation r =>
    cases h
    refine H.trans _ _ _ (H.trans _ _ _ (H.beginOp s) ?_) (H.answer _ _)
    split
    · exact H.raise _ _
    · exact H.rotate _ _
  case getPixel x y =>
    cases h
    exact H.trans _ _ _ (H.beginOp s) (H.answer _ _)
  case readReg n =>
    cases h
    split
    · exact H.trans _ _ _ (H.beginOp s) (H.answer _ _)
    · exact H.refused _ _
  case clearStatus m =>
    cases h
    exact H.trans _ _ _ (H.trans _ _ _ (H.beginOp s) (H.clearFlags _ _)) (H.answer _ _)
  all_goals
    cases h
    exact H.wireCommand _ s

end Operations

end Sys2Proof.Machine
end

