-- ==== Sys2Proof/Laws/PerInstr.lean ====
section
/-! SUPPORT. A fact about the encoding of every instruction, one lemma per constructor: its word is of its layer and carries its
opcode or command byte of the tables of 30_encoding.md R112 and R117. -/

namespace Sys2Proof.Laws.OpcodeField

open Sys2Proof

/-- The opcode (R112) or the command byte (R117) of an instruction. -/
def code : Instr → Byte
  | .busReset => 0x01#8
  | .busInit _ => 0x02#8
  | .txnStart => 0x03#8
  | .txnEnd => 0x04#8
  | .wcmd _ => 0x05#8
  | .wdata _ => 0x06#8
  | .wcmdT _ => 0x07#8
  | .wdataT _ => 0x08#8
  | .init => 0x10#8
  | .initS _ => 0x10#8
  | .enterFull => 0x11#8
  | .enterPartial => 0x12#8
  | .drawPixel _ _ _ => 0x13#8
  | .fill _ => 0x14#8
  | .update => 0x15#8
  | .updatePf => 0x16#8
  | .isBusy => 0x17#8
  | .waitBusy => 0x18#8
  | .setRotation _ => 0x19#8
  | .getPixel _ _ => 0x1A#8
  | .readReg _ => 0x1B#8
  | .clearStatus _ => 0x1C#8
  | .wireActivation => 0x20#8
  | .wireUpdateControl => 0x22#8
  | .wirePixelData => 0x24#8
  | .wireWriteLut => 0x32#8
  | .wireSetRamX => 0x44#8
  | .wireSetRamY => 0x45#8
  | .wireSetRamXCounter => 0x4E#8
  | .wireSetRamYCounter => 0x4F#8
  | .wireNopTerminator => 0xFF#8

/-- The word of an instruction is of its layer and carries its code. -/
def Statement (i : Instr) : Prop :=
  match encode i with
  | .op w => i.isHostOp = true ∧ opcodeOf w = code i
  | .wire b => i.isHostOp = false ∧ b = code i

theorem busReset : Statement .busReset := ⟨rfl, opcodeOf_append _ _⟩
theorem busInit (f : Word) : Statement (.busInit f) := ⟨rfl, opcodeOf_append _ _⟩
theorem txnStart : Statement .txnStart := ⟨rfl, opcodeOf_append _ _⟩
theorem txnEnd : Statement .txnEnd := ⟨rfl, opcodeOf_append _ _⟩
theorem wcmd (b : Byte) : Statement (.wcmd b) := ⟨rfl, opcodeOf_append _ _⟩
theorem wdata (b : Byte) : Statement (.wdata b) := ⟨rfl, opcodeOf_append _ _⟩
theorem wcmdT (b : Byte) : Statement (.wcmdT b) := ⟨rfl, opcodeOf_append _ _⟩
theorem wdataT (b : Byte) : Statement (.wdataT b) := ⟨rfl, opcodeOf_append _ _⟩
theorem init : Statement .init := ⟨rfl, opcodeOf_append _ _⟩
theorem initS (s : Word) : Statement (.initS s) := ⟨rfl, opcodeOf_append _ _⟩
theorem enterFull : Statement .enterFull := ⟨rfl, opcodeOf_append _ _⟩
theorem enterPartial : Statement .enterPartial := ⟨rfl, opcodeOf_append _ _⟩
theorem drawPixel (x : Half) (y : Half) (c : Half) : Statement (.drawPixel x y c) := ⟨rfl, opcodeOf_append _ _⟩
theorem fill (c : Half) : Statement (.fill c) := ⟨rfl, opcodeOf_append _ _⟩
theorem update : Statement .update := ⟨rfl, opcodeOf_append _ _⟩
theorem updatePf : Statement .updatePf := ⟨rfl, opcodeOf_append _ _⟩
theorem isBusy : Statement .isBusy := ⟨rfl, opcodeOf_append _ _⟩
theorem waitBusy : Statement .waitBusy := ⟨rfl, opcodeOf_append _ _⟩
theorem setRotation (r : Byte) : Statement (.setRotation r) := ⟨rfl, opcodeOf_append _ _⟩
theorem getPixel (x : Half) (y : Half) : Statement (.getPixel x y) := ⟨rfl, opcodeOf_append _ _⟩
theorem readReg (n : Byte) : Statement (.readReg n) := ⟨rfl, opcodeOf_append _ _⟩
theorem clearStatus (m : BitVec 12) : Statement (.clearStatus m) := ⟨rfl, opcodeOf_append _ _⟩
theorem wireActivation : Statement .wireActivation := ⟨rfl, rfl⟩
theorem wireUpdateControl : Statement .wireUpdateControl := ⟨rfl, rfl⟩
theorem wirePixelData : Statement .wirePixelData := ⟨rfl, rfl⟩
theorem wireWriteLut : Statement .wireWriteLut := ⟨rfl, rfl⟩
theorem wireSetRamX : Statement .wireSetRamX := ⟨rfl, rfl⟩
theorem wireSetRamY : Statement .wireSetRamY := ⟨rfl, rfl⟩
theorem wireSetRamXCounter : Statement .wireSetRamXCounter := ⟨rfl, rfl⟩
theorem wireSetRamYCounter : Statement .wireSetRamYCounter := ⟨rfl, rfl⟩
theorem wireNopTerminator : Statement .wireNopTerminator := ⟨rfl, rfl⟩

end Sys2Proof.Laws.OpcodeField
end

