-- ==== Sys2Proof/Laws/Step.lean ====
section
/-! SUPPORT. What a step can do, said once: the inversion lemmas of `clockedOn`, `runWord` and `step`. -/

namespace Sys2Proof.Machine

open Sys2Proof

/-- When running a word and letting the clock go on gives a next state. -/
theorem clockedOn_next (o : Host.Outcome State Fault Refusal) (t : State) :
    clockedOn o = .next t ↔ ∃ u, o = .next u ∧ t = u.clockOn := by
  cases o with
  | next u => simp [clockedOn, eq_comm]
  | fault f => simp [clockedOn]
  | refused r => simp [clockedOn]

/-- When a word runs to a next state: it is a legal word, whose instruction runs, or an illegal op word, which is refused. -/
theorem runWord_next (c : CodeWord) (s t : State) (h : runWord c s = .next t) :
    (∃ i, decode c = .ok i ∧ exec i (s.receive c) = .next t)
      ∨ ∃ w e, c = .op w ∧ decode c = .error e ∧ t = (s.accept w).refuse .errIllegalOp := by
  unfold runWord at h
  cases hd : decode c with
  | ok i => simp only [hd] at h; exact .inl ⟨i, rfl, h⟩
  | error e =>
    cases c with
    | op w => simp only [hd] at h; injection h with h; exact .inr ⟨w, e, rfl, rfl, h.symm⟩
    | wire b => simp only [hd] at h; cases h

/-- What a step can do (10_state.md R34, 70_reset_and_hazards.md R340 to R343). -/
theorem step_cases (s t : State) (h : step s = .next t) :
    (s.agenda = [] ∧ t = s.retire.clockOn)
      ∨ (∃ c rest u, s.agenda = .present c :: rest ∧ runWord c { s with agenda := rest } = .next u ∧ t = u.clockOn)
      ∨ (∃ rest, s.agenda = .blockReset :: rest ∧ t = { s with agenda := rest }.blockReset)
      ∨ ∃ w cut rest u, s.agenda = .blockResetDuring w cut :: rest ∧ runWord (.op w) { s with agenda := rest } = .next u
          ∧ t = State.abandon cut { s with agenda := rest } u := by
  unfold step advance at h
  cases ha : s.agenda with
  | nil => simp only [ha] at h; injection h with h; exact .inl ⟨rfl, h.symm⟩
  | cons r rest =>
    simp only [ha] at h
    cases r with
    | present c =>
      obtain ⟨u, hu, rfl⟩ := (clockedOn_next _ _).mp h
      exact .inr (.inl ⟨c, rest, u, rfl, hu, rfl⟩)
    | blockReset => injection h with h; exact .inr (.inr (.inl ⟨rest, rfl, h.symm⟩))
    | blockResetDuring w cut =>
      simp only [serve] at h
      split at h
      · rename_i u hu
        injection h with h
        exact .inr (.inr (.inr ⟨w, cut, rest, u, rfl, hu, h.symm⟩))
      · cases h
      · cases h

end Sys2Proof.Machine
end

