-- ==== Sys2Proof/Tests/Slice0.lean ====
section
/-! SUPPORT. The tests: words written out from the encoding, one-step vectors of 95_test_vectors.md (named V<n>), and a witness of
the hypotheses of every statement that has any. -/

namespace Sys2Proof.Tests

open Sys2Proof Sys2Proof.Machine

/-! ### Helpers -/

/-- The test profile of 95_test_vectors.md, with LUT bytes of its own. -/
def profile : Params where
  width := 16
  height := 2
  syncMode := true
  threshold := 7
  powerOffAfterModeEntry := false
  powerOffAfterUpdate := false
  powerSeqWait := true
  powerOffCtrl := .off03
  lutFull := Vector.replicate 30 0xAA#8
  lutPart := Vector.replicate 30 0x55#8
  configBlock := [(0x11#8, [0x03#8])]
  rotMap := { class0 := .flip false false, class1 := .flip true false, class2 := .flip true true, class3 := .flip false true }
  clkHz := 48000000
  spiHzDefault := 4000000

/-- The state after block reset, with the panel's answers given. -/
def bench (draws : List Bool) : State := { State.resetWith profile with panel := draws }

/-- A panel that is idle for 64 samples. -/
def quietBench : State := bench (List.replicate 64 false)

/-- The same with a host transaction open. -/
def openBench : State := { quietBench with txnOpen := true, csN := false, trace := [.csOn false] }

/-- The quiet bench with a buffer of four bytes. -/
def withBuf (b0 b1 b2 b3 : Byte) (s : State) : State := { s with buf := [(0, b0), (1, b1), (2, b2), (3, b3)] }

/-- The quiet bench in asynchronous mode. -/
def asyncBench (draws : List Bool) : State := { State.resetWith { profile with syncMode := false } with panel := draws }

/-- The state after an instruction. -/
def after (i : Instr) (s : State) : State :=
  match exec i s with
  | .next t => t
  | .fault _ => s
  | .refused _ => s

/-- The state after a step. -/
def afterStep (s : State) : State :=
  match step s with
  | .next t => t
  | .fault _ => s
  | .refused _ => s

/-- What a decoder answers, comparable. -/
def decoded (c : CodeWord) : Option Instr :=
  match decode c with
  | .ok i => some i
  | .error _ => none

/-- The name by which a word is rejected. -/
def rejected (c : CodeWord) : Option DecodeError :=
  match decode c with
  | .ok _ => none
  | .error e => some e

/-! ### Well-formed terms -/

theorem test_wf_snapshot : (Instr.initS 0x00000705#32).wellFormed = true := by decide
theorem test_wf_refuses_low_reserved : (Instr.initS 0x00000008#32).wellFormed = false := by decide
theorem test_wf_refuses_high_reserved : (Instr.initS 0x10000000#32).wellFormed = false := by decide

/-! ### Decoding of written-out words (V8, V1) -/

theorem test_decode_bus_reset : decoded (.op 0x0100000000000000#64) = some .busReset := by decide
theorem test_decode_bus_init : decoded (.op 0x02000000003D0900#64) = some (.busInit 4000000#32) := by decide
theorem test_decode_txn_start : decoded (.op 0x0300000000000000#64) = some .txnStart := by decide
theorem test_decode_txn_end : decoded (.op 0x0400000000000000#64) = some .txnEnd := by decide
theorem test_decode_wcmd : decoded (.op 0x0500000000000022#64) = some (.wcmd 0x22#8) := by decide
theorem test_decode_wdata : decoded (.op 0x06000000000000C0#64) = some (.wdata 0xC0#8) := by decide
theorem test_decode_wcmd_t : decoded (.op 0x0700000000000020#64) = some (.wcmdT 0x20#8) := by decide
theorem test_decode_wdata_t : decoded (.op 0x0800000000000003#64) = some (.wdataT 0x03#8) := by decide
theorem test_decode_init : decoded (.op 0x1000000000000000#64) = some .init := by decide
theorem test_decode_init_s : decoded (.op 0x1000000100000705#64) = some (.initS 0x705#32) := by decide
theorem test_decode_enter_full : decoded (.op 0x1100000000000000#64) = some .enterFull := by decide
theorem test_decode_enter_partial : decoded (.op 0x1200000000000000#64) = some .enterPartial := by decide
theorem test_decode_draw_pixel : decoded (.op 0x1300FFFF0000FFFF#64) = some (.drawPixel 0xFFFF#16 0#16 0xFFFF#16) := by decide
theorem test_decode_draw_pixel_fields : decoded (.op 0x1300000300010000#64) = some (.drawPixel 3#16 1#16 0#16) := by decide
theorem test_decode_fill : decoded (.op 0x140000000000FFFF#64) = some (.fill 0xFFFF#16) := by decide
theorem test_decode_update : decoded (.op 0x1500000000000000#64) = some .update := by decide
theorem test_decode_update_pf : decoded (.op 0x1600000000000000#64) = some .updatePf := by decide
theorem test_decode_is_busy : decoded (.op 0x1700000000000000#64) = some .isBusy := by decide
theorem test_decode_wait_busy : decoded (.op 0x1800000000000000#64) = some .waitBusy := by decide
theorem test_decode_set_rotation : decoded (.op 0x1900000000000001#64) = some (.setRotation 1#8) := by decide
theorem test_decode_get_pixel : decoded (.op 0x1A000000C0010000#64) = some (.getPixel 0#16 0xC001#16) := by decide
theorem test_decode_read_reg : decoded (.op 0x1B00000000000001#64) = some (.readReg 1#8) := by decide
theorem test_decode_clear_status : decoded (.op 0x1C00000000000FFF#64) = some (.clearStatus 0xFFF#12) := by decide
theorem test_decode_wire_activation : decoded (.wire 0x20#8) = some .wireActivation := by decide
theorem test_decode_wire_update_control : decoded (.wire 0x22#8) = some .wireUpdateControl := by decide
theorem test_decode_wire_pixel_data : decoded (.wire 0x24#8) = some .wirePixelData := by decide
theorem test_decode_wire_write_lut : decoded (.wire 0x32#8) = some .wireWriteLut := by decide
theorem test_decode_wire_set_ram_x : decoded (.wire 0x44#8) = some .wireSetRamX := by decide
theorem test_decode_wire_set_ram_y : decoded (.wire 0x45#8) = some .wireSetRamY := by decide
theorem test_decode_wire_set_ram_x_counter : decoded (.wire 0x4E#8) = some .wireSetRamXCounter := by decide
theorem test_decode_wire_set_ram_y_counter : decoded (.wire 0x4F#8) = some .wireSetRamYCounter := by decide
theorem test_decode_wire_nop_terminator : decoded (.wire 0xFF#8) = some .wireNopTerminator := by decide

/-- V9: one word for each opcode range that is assigned to nothing. -/
theorem test_decode_unassigned :
    ([0x0000000000000000#64, 0x0900000000000000#64, 0x0F00000000000000#64, 0x1D00000000000000#64, 0xDF00000000000000#64,
      0xE000000000000000#64, 0xFF00000000000000#64].map fun w => decoded (.op w)) = List.replicate 7 none := by decide

/-- V9: one word for each reserved bit field. -/
theorem test_decode_reserved :
    ([0x0300000000000001#64, 0x0500000000000100#64, 0x0200000100000000#64, 0x1000000000000001#64, 0x1000000100000008#64,
      0x1000000110000000#64, 0x1000000200000000#64, 0x1301000000000000#64, 0x1A00000000000001#64, 0x1900000000000100#64,
      0x1C00000000001000#64].map fun w => decoded (.op w)) = List.replicate 11 none := by decide

theorem test_decode_error_names : rejected (.op 0x1D00000000000000#64) = some (.unassignedOpcode 0x1D#8)
    ∧ rejected (.op 0x0300000000000001#64) = some (.reservedBits 0x03#8) ∧ rejected (.wire 0x12#8) = some (.notWireCommand 0x12#8) := by
  decide

/-- The numbering of the opcode table's bits. -/
theorem test_table_word : decodeTableWord 64 0x1000000100000705 = some (.initS 0x705#32)
    ∧ decodeTableWord 8 0x4E = some .wireSetRamXCounter := by decide

/-- R121, R122. -/
theorem test_assemble : assemble .DRAW_PIXEL [.num (-1), .num 0, .WHITE] = some (.drawPixel 0xFFFF#16 0#16 0xFFFF#16)
    ∧ assemble .READ_REG [.BUF_BYTES] = some (.readReg 6#8) ∧ assemble .WCMD [.num 256] = none
    ∧ expandPseudo (.SEND 0x22#8 [0xC0#8]) = [.txnStart, .wcmd 0x22#8, .wdata 0xC0#8, .txnEnd] := by decide

/-! ### One step (vectors of 95_test_vectors.md) -/

/-- V11, the last rows but two. -/
theorem test_bus_reset_in_transaction : newEvents openBench (after .busReset openBench) = [.rst false, .delay 40, .rst true, .delay 40]
    ∧ (after .busReset openBench).txnOpen = true := by decide

/-- V11. -/
theorem test_bus_init_abandons : newEvents openBench (after (.busInit 1000000#32) openBench)
      = [.cfg 1000000#32, .idle, .rst false, .delay 40, .rst true, .delay 40]
    ∧ (after (.busInit 1000000#32) openBench).status = 0x400#12 := by decide

/-- V11. -/
theorem test_bus_init_zero_refused : (after (.busInit 0#32) openBench).rspRefused = true
    ∧ (after (.busInit 0#32) openBench).status = 0x080#12 ∧ (after (.busInit 0#32) openBench).txnOpen = true := by decide

/-- V11: a start while busy. -/
theorem test_txn_start_busy : (after .txnStart (bench [true])).trace = [.csOn true]
    ∧ (after .txnStart (bench [true])).status = 0x200#12 := by decide

/-- V11. -/
theorem test_txn_end : newEvents openBench (after .txnEnd openBench) = [.csOff]
    ∧ (after .txnEnd quietBench).status = 0x004#12 := by decide

/-- V11. -/
theorem test_wcmd : newEvents openBench (after (.wcmd 0x22#8) openBench) = [.cmd 0x22#8]
    ∧ (after (.wcmd 0x22#8) quietBench).status = 0x001#12 ∧ (after (.wcmd 0x22#8) quietBench).trace = [] := by decide

/-- V11. -/
theorem test_wdata : newEvents openBench (after (.wdata 0xC0#8) openBench) = [.dat 0xC0#8]
    ∧ (after (.wdata 0xC0#8) quietBench).status = 0x001#12 := by decide

/-- V11. -/
theorem test_wcmd_t : (after (.wcmdT 0x20#8) quietBench).trace = [.csOn false, .cmd 0x20#8, .csOff]
    ∧ (after (.wcmdT 0x20#8) openBench).status = 0x002#12 := by decide

/-- V11. -/
theorem test_wdata_t : (after (.wdataT 0x03#8) quietBench).trace = [.csOn false, .dat 0x03#8, .csOff]
    ∧ (after (.wdataT 0x03#8) openBench).status = 0x002#12 := by decide

/-- V14. -/
theorem test_half_period : halfPeriod profile 4000000#32 = 6 ∧ halfPeriod profile 5000000#32 = 5
    ∧ halfPeriod profile 100000000#32 = 1 := by decide

/-- V20 with a busy start sample (R347). -/
theorem test_init_busy : (after .init (bench [true])).trace
      = [.cfg 4000000#32, .idle, .rst false, .delay 40, .rst true, .delay 40, .csOn true, .cmd 0x11#8, .dat 0x03#8, .csOff]
    ∧ (after .init (bench [true])).status = 0x200#12 := by decide

/-- V22, first and last rows. -/
theorem test_init_restore : stateRegister (after (.initS 0x705#32) quietBench) = 0x704#32
    ∧ (after (.initS 0x705#32) quietBench).status = 0#12 := by decide

/-- V22. -/
theorem test_init_restore_clamped : stateRegister (after (.initS 0xFF06#32) quietBench) = 0x706#32
    ∧ (after (.initS 0xFF06#32) quietBench).status = 0x800#12 := by decide

set_option maxRecDepth 8000 in
/-- The bytes before the LUT in V23. -/
theorem test_enter_full_window : ((after .enterFull quietBench).trace.take 18)
      = [.csOn false, .cmd 0x44#8, .dat 0x00#8, .dat 0x01#8, .cmd 0x45#8, .dat 0x00#8, .dat 0x00#8, .dat 0x01#8, .dat 0x00#8, .csOff,
        .csOn false, .cmd 0x4E#8, .dat 0x00#8, .cmd 0x4F#8, .dat 0x00#8, .dat 0x00#8, .csOff, .csOn false]
    ∧ stateRegister (after .enterFull quietBench) = 0x7#32 := by decide

set_option maxRecDepth 8000 in
/-- V24. -/
theorem test_enter_partial : (after .enterPartial { quietBench with initialized := true, powerOn := true }).rspWord = 1#32
    ∧ (after .enterPartial { quietBench with initialized := true, powerOn := true }).status = 0x010#12
    ∧ ((after .enterPartial { quietBench with initialized := true, powerOn := true }).trace.drop 33)
      = [.csOn false, .cmd 0x22#8, .dat 0xC0#8, .cmd 0x20#8, .csOff, .poll false] := by decide

/-- V26. -/
theorem test_update_full : (after .update (withBuf 0xFF#8 0xFF#8 0xEF#8 0xFF#8 { quietBench with initialized := true, powerOn := true })).trace
      = [.poll false, .csOn false, .cmd 0x24#8, .dat 0xFF#8, .dat 0xFF#8, .dat 0xEF#8, .dat 0xFF#8, .csOff,
        .csOn false, .cmd 0x22#8, .dat 0xC4#8, .cmd 0x20#8, .cmd 0xFF#8, .csOff, .poll false] := by decide

/-- V28, second row. -/
theorem test_update_dropped : (after .update (asyncBench [true])).trace = [.poll true]
    ∧ (after .update (asyncBench [true])).status = 0x040#12 ∧ (after .update (asyncBench [true])).rspWord = 0#32 := by decide

set_option maxRecDepth 8000 in
/-- V31: the next call after a restored count of 7. -/
theorem test_update_pf_forced :
    (after .updatePf (withBuf 0#8 0#8 0#8 0#8 { quietBench with fullMode := false, initialized := true, powerOn := true, count := 7#8 })).rspWord
      = 5#32
    ∧ stateRegister (after .updatePf (withBuf 0#8 0#8 0#8 0#8
        { quietBench with fullMode := false, initialized := true, powerOn := true, count := 7#8 })) = 0x005#32 := by decide

/-- V32. -/
theorem test_update_pf_dropped : (after .updatePf { asyncBench [true] with count := 2#8 }).count = 3#8
    ∧ (after .updatePf { asyncBench [true] with count := 2#8 }).trace = [.poll true] := by decide

/-- V16. -/
theorem test_is_busy : (after .isBusy (bench [true])).rspWord = 1#32
    ∧ statusRegister (after .isBusy (bench [false])) = 0#32 := by decide

/-- V15 and V17, third row. -/
theorem test_wait_busy : (after .waitBusy (bench [true, true, false])).trace
      = [.poll true, .delay 5, .poll true, .delay 5, .poll false]
    ∧ (after .waitBusy (bench [true, true, false])).rspWord = 1#32 := by decide

/-- V39. -/
theorem test_set_rotation : (after (.setRotation 3#8) quietBench).rotation = 3#2
    ∧ (after (.setRotation 255#8) { quietBench with rotation := 3#2 }).rotation = 3#2
    ∧ (after (.setRotation 4#8) quietBench).status = 0x008#12 := by decide

/-- V35, the second and the fifth row. -/
theorem test_draw_pixel :
    (after (.drawPixel 3#16 1#16 0#16) (withBuf 0xFF#8 0xFF#8 0xFF#8 0xFF#8 quietBench)).bufImage = [0xFF#8, 0xFF#8, 0xEF#8, 0xFF#8]
    ∧ (after (.drawPixel 1#16 3#16 0#16) (withBuf 0xFF#8 0xFF#8 0xFF#8 0xFF#8 { quietBench with rotation := 1#2 })).bufImage
      = [0xFF#8, 0xFF#8, 0xFF#8, 0xF7#8] := by decide

/-- V35, rotations 2 and 3. -/
theorem test_draw_pixel_rotated :
    (after (.drawPixel 0#16 0#16 0#16) (withBuf 0xFF#8 0xFF#8 0xFF#8 0xFF#8 { quietBench with rotation := 2#2 })).bufImage
      = [0xFF#8, 0xFF#8, 0xFF#8, 0xFE#8]
    ∧ (after (.drawPixel 0#16 0#16 0#16) (withBuf 0xFF#8 0xFF#8 0xFF#8 0xFF#8 { quietBench with rotation := 3#2 })).bufImage
      = [0xFF#8, 0xFF#8, 0x7F#8, 0xFF#8] := by decide

/-- V37. -/
theorem test_fill : (after (.fill 0x1234#16) quietBench).bufImage = [0x34#8, 0x34#8, 0x34#8, 0x34#8] := by decide

/-- V38. -/
theorem test_get_pixel :
    ([(3, 1), (4, 1), (0, 2), (-1, 0)].map fun (xy : Int × Int) =>
      (after (.getPixel (BitVec.ofInt 16 xy.1) (BitVec.ofInt 16 xy.2)) (withBuf 0xFF#8 0xFF#8 0xEF#8 0xFF#8 quietBench)).rspWord)
      = [0#32, 1#32, 0x100#32, 0x100#32] := by decide

/-- V41. -/
theorem test_read_reg : ([0#8, 1#8, 2#8, 3#8, 4#8, 5#8, 6#8].map fun n => (after (.readReg n) quietBench).rspWord)
      = [0x00020000#32, 0x00000002#32, 0x1E030709#32, 0x00020010#32, 0#32, 0x003D0900#32, 4#32]
    ∧ (after (.readReg 7#8) quietBench).rspRefused = true := by decide

/-- The example of R281, and the first row of V42 with the value that R281 gives (log 17). -/
theorem test_clear_status : (after (.clearStatus 0x001#12) { quietBench with status := 0x041#12 }).status = 0x040#12
    ∧ (after (.clearStatus 0x0C0#12) { quietBench with status := 0x2CE#12 }).status = 0x20E#12
    ∧ (after (.clearStatus 0xFFF#12) openBench).txnOpen = true := by decide

/-- V1: a command byte of the wire layer inside a transaction. -/
theorem test_wire_commands :
    ([Instr.wireActivation, .wireUpdateControl, .wirePixelData, .wireWriteLut, .wireSetRamX, .wireSetRamY, .wireSetRamXCounter,
      .wireSetRamYCounter, .wireNopTerminator].map fun i => newEvents openBench (after i openBench))
      = [[.cmd 0x20#8], [.cmd 0x22#8], [.cmd 0x24#8], [.cmd 0x32#8], [.cmd 0x44#8], [.cmd 0x45#8], [.cmd 0x4E#8], [.cmd 0x4F#8],
        [.cmd 0xFF#8]] := by decide

/-- V10: the decode check comes before the transaction check. -/
theorem test_check_order : (afterStep (openBench.present (.op 0x0700000000000100#64))).status = 0x080#12
    ∧ (after .enterFull { openBench with initialized := true }).status = 0x002#12 := by decide

/-- R342: a block reset after two events and three bits of `WCMD_T 0xA0`: `CsOn` and the first bits of the byte. -/
theorem test_cut : (afterStep { quietBench with agenda := [.blockResetDuring 0x07000000000000A0#64 ⟨1, 3⟩] }).trace
      = [.csOn false, .cutByte false [true, false, true]]
    ∧ (afterStep { quietBench with agenda := [.blockResetDuring 0x07000000000000A0#64 ⟨1, 3⟩] }).rspValid = false := by decide

/-- The first instruction after reset is the word placed, whatever the parameters. -/
theorem test_first_instruction : step (State.reset.withFetchWord 64 0x0300000000000000)
    = clockedOn (exec .txnStart (State.accept 0x0300000000000000#64 State.reset)) := rfl

/-- R47: a level of `BUSY` is at the output of the synchronizer two edges later. -/
theorem test_synchronizer_chain : (((quietBench.clockEdge false).clockEdge true).sync2 = false)
    ∧ ((quietBench.clockEdge false).sync2 = true) ∧ ((quietBench.clockEdge false).clockEdge true).sync1 = true := by decide

/-- R47, R48: after the step that sampled, `busy_last` is the sample and the last stage an open level. -/
theorem test_clock_goes_on : (afterStep (quietBench.present (.op 0x1700000000000000#64))).busyLast = false
    ∧ (afterStep (quietBench.present (.op 0x1700000000000000#64))).sync2 = Config.busyLevel 0 := ⟨rfl, rfl⟩

/-! ### Witnesses: states and operands that meet the hypotheses of a statement, clause by clause -/

/-- Partial mode, initialized and powered, on the quiet bench. -/
def partialBench : State := { quietBench with fullMode := false, initialized := true, powerOn := true }

/-- A panel that reads busy at the drop check of an asynchronous update. -/
def busyAsync : State := asyncBench [true]

theorem witness_BlockResetStep : { quietBench with agenda := [.blockReset] }.agenda = .blockReset :: [] := rfl

/-- Each clause: the next event is a command byte (no bit of it, and more than seven), a data byte, and no byte. -/
theorem witness_BlockResetAbandonsOperation :
    { openBench with agenda := [.blockResetDuring 0x0500000000000022#64 ⟨0, 8⟩] }.agenda
      = .blockResetDuring 0x0500000000000022#64 ⟨0, 8⟩ :: []
    ∧ (newEvents openBench (after (.wcmd 0x22#8) openBench))[0]? = some (.cmd 0x22#8)
    ∧ (newEvents openBench (after (.wdata 0xC0#8) openBench))[0]? = some (.dat 0xC0#8)
    ∧ (newEvents quietBench (after (.wcmdT 0x20#8) quietBench))[0]? = some (.csOn false)
    ∧ (newEvents quietBench (after (.wcmdT 0x20#8) quietBench))[3]? = none := by decide

theorem witness_IdleStepTakesResponse : { after .isBusy quietBench with agenda := [] }.agenda = [] := rfl

theorem witness_StepRunsDecodedInstruction_op :
    (quietBench.present (.op 0x0700000000000020#64)).agenda = .present (.op 0x0700000000000020#64) :: []
      ∧ decode (.op 0x0700000000000020#64) = .ok (.wcmdT 0x20#8) := ⟨rfl, rfl⟩

theorem witness_StepRunsDecodedInstruction_wire :
    (openBench.present (.wire 0xFF#8)).agenda = .present (.wire 0xFF#8) :: [] ∧ decode (.wire 0xFF#8) = .ok .wireNopTerminator :=
  ⟨rfl, rfl⟩

theorem witness_IllegalOpWordIsRefused :
    (quietBench.present (.op 0x0300000000000001#64)).agenda = .present (.op 0x0300000000000001#64) :: []
      ∧ decode (.op 0x0300000000000001#64) = .error (.reservedBits 0x03#8) := ⟨rfl, rfl⟩

/-- The one stop of a step: its agenda entry is met. -/
theorem witness_NeverHalts_stop : (quietBench.present (.wire 0x12#8)).agenda = .present (.wire 0x12#8) :: []
    ∧ step (quietBench.present (.wire 0x12#8)) = .refused (.notWireCommand 0x12#8) := ⟨rfl, rfl⟩

theorem witness_EveryOperationResponds : Instr.isHostOp .updatePf = true
    ∧ exec .updatePf partialBench = .next (after .updatePf partialBench) := ⟨rfl, rfl⟩

theorem witness_DecodeInvertsEncode : (Instr.initS 0x0000FF07#32).wellFormed = true := by decide

theorem witness_LegalWordsAreEncodings : decode (.op 0x100000010000FF07#64) = .ok (.initS 0x0000FF07#32) := rfl

theorem witness_UnassignedOpcodesAreRejected :
    ([0x00#64, 0x09#64, 0x0F#64, 0x1D#64, 0xFF#64].all fun o => !([0x01, 0x02, 0x03, 0x04, 0x05, 0x06, 0x07, 0x08, 0x10, 0x11, 0x12,
      0x13, 0x14, 0x15, 0x16, 0x17, 0x18, 0x19, 0x1A, 0x1B, 0x1C].contains (((o <<< 56) >>> 56).toNat))) = true := by decide

theorem witness_BusInitConfiguresAndResets : (1#32 ≠ 0#32 ∧ openBench.txnOpen = true) ∧ 0#32 = 0#32 := by decide

theorem witness_TransactionOpensAndCloses : quietBench.txnOpen = false ∧ openBench.txnOpen = true := ⟨rfl, rfl⟩

theorem witness_ByteWritesInsideTransaction : openBench.txnOpen = true := rfl

theorem witness_OneByteTransactions : quietBench.txnOpen = false := rfl

theorem witness_OneByteFormsMatchSequences : quietBench.txnOpen = false ∧ openBench.txnOpen = true := ⟨rfl, rfl⟩

theorem witness_RawFramerKeepsPanelState : isRawFramerOp (.wdata 0xC0#8) = true
    ∧ exec (.wdata 0xC0#8) openBench = .next (after (.wdata 0xC0#8) openBench) := ⟨rfl, rfl⟩

theorem witness_RefusedOperationsDoNothingElse_refused : Instr.isHostOp .update = true
    ∧ exec .update openBench = .next (after .update openBench) ∧ refusalBit .update openBench = some 0x002#12 := ⟨rfl, rfl, rfl⟩

theorem witness_RefusedOperationsDoNothingElse_passed : Instr.isHostOp .update = true
    ∧ exec .update quietBench = .next (after .update quietBench) ∧ refusalBit .update quietBench = none := ⟨rfl, rfl, rfl⟩

theorem witness_FlagsAreSticky : (∀ m, Instr.setRotation 4#8 ≠ .clearStatus m)
    ∧ exec (.setRotation 4#8) quietBench = .next (after (.setRotation 4#8) quietBench) := ⟨fun _ h => (nomatch h), rfl⟩

theorem witness_WireCommandsShiftTheirByte : wireCommandByte .wireSetRamX = some 0x44#8
    ∧ openBench.txnOpen = true ∧ quietBench.txnOpen = false := ⟨rfl, rfl, rfl⟩

set_option maxRecDepth 8000 in
theorem witness_OnlyKnownCommandsAreSent : (∀ b, Instr.update ≠ .wcmd b) ∧ (∀ b, Instr.update ≠ .wcmdT b)
    ∧ exec .update partialBench = .next (after .update partialBench)
    ∧ .cmd 0xFF#8 ∈ newEvents partialBench (after .update partialBench) :=
  ⟨fun _ h => (nomatch h), fun _ h => (nomatch h), rfl, by decide⟩

theorem witness_BytesGoOutMostSignificantFirst : (linesOf openBench).csN = false := rfl

/-- `half` at its least value and above it. -/
theorem witness_HalfPeriodBoundsRate : (0xFFFFFFFF#32 : Word) ≠ 0#32 ∧ halfPeriod profile 0xFFFFFFFF#32 = 1
    ∧ (1 ≤ 24000000 ∧ paramClkHz profile ≤ 2 * 24000000 * (1#32 : Word).toNat) := by decide

theorem witness_SnapshotRoundTrip : openBench.cfg = { quietBench with count := 7#8 }.cfg
    ∧ countBounded { quietBench with count := 7#8 } = true := ⟨rfl, rfl⟩

theorem witness_ModeEntryIsIdempotent : (partialBench.txnOpen = false ∧ partialBench.fullMode = false ∧ partialBench.initialized = true)
    ∧ { quietBench with initialized := true }.txnOpen = false ∧ { quietBench with initialized := true }.fullMode = true
    ∧ { quietBench with initialized := true }.initialized = true := by decide

theorem witness_SecondModeEntryIsNoOp : quietBench.txnOpen = false
    ∧ exec (if true then .enterFull else .enterPartial) quietBench = .next (after .enterFull quietBench)
    ∧ exec (if false then .enterFull else .enterPartial) quietBench = .next (after .enterPartial quietBench) := ⟨rfl, rfl, rfl⟩

/-- Also meets the hypotheses of ModeEntryCompletesWhateverThePanel. -/
theorem witness_ModeEntryEvents : quietBench.txnOpen = false ∧ (quietBench.fullMode = true → quietBench.initialized = false)
    ∧ (quietBench.fullMode = false → quietBench.initialized = false) ∧ samplesIdle 7 quietBench
    ∧ partialBench.txnOpen = false ∧ (partialBench.fullMode = true → partialBench.initialized = false)
    ∧ samplesIdle 7 partialBench := by decide

theorem witness_ModeEntryCompletesWhateverThePanel : (bench [true]).txnOpen = false
    ∧ ((bench [true]).fullMode = true → (bench [true]).initialized = false)
    ∧ ((bench [true]).fullMode = false → (bench [true]).initialized = false) := by decide

theorem witness_UpdateEvents : partialBench.txnOpen = false ∧ samplesIdle 15 partialBench := by decide

theorem witness_UpdateCompletesWhateverThePanel : (bench [true]).txnOpen = false
    ∧ ((bench [true]).cfg.syncMode = false → (bench [true]).sampleAt 0 = false)
    ∧ (asyncBench [false, true]).txnOpen = false
    ∧ ((asyncBench [false, true]).cfg.syncMode = false → (asyncBench [false, true]).sampleAt 0 = false) := by decide

theorem witness_BusyAsynchronousUpdateIsDropped : busyAsync.txnOpen = false ∧ busyAsync.cfg.syncMode = false
    ∧ busyAsync.sampleAt 0 = true := by decide

theorem witness_UpdateTransactionCounts : (partialBench.txnOpen = false ∧ partialBench.cfg.syncMode = true ∧ partialBench.powerOn = true
      ∧ partialBench.cfg.powerOffAfterUpdate = false ∧ partialBench.fullMode = false)
    ∧ { partialBench with fullMode := true }.fullMode = true := by decide

theorem witness_FullModeKeepsTheWindow :
    (exec .update quietBench = .next (after .update quietBench) ∧ quietBench.fullMode = true)
    ∧ exec .enterPartial quietBench = .next (after .enterPartial quietBench) := ⟨⟨rfl, rfl⟩, rfl⟩

/-- The highest count below the threshold. -/
theorem witness_UpdatePfBelowThreshold : { partialBench with count := 5#8 }.txnOpen = false
    ∧ { partialBench with count := 5#8 }.count.toNat + 1 < paramThreshold { partialBench with count := 5#8 }.cfg := by decide

/-- The lowest count at the threshold, and a count of the range's end. -/
theorem witness_UpdatePfForcesFullCycle : { partialBench with count := 6#8 }.txnOpen = false
    ∧ paramThreshold { partialBench with count := 6#8 }.cfg ≤ { partialBench with count := 6#8 }.count.toNat + 1
    ∧ paramThreshold { partialBench with count := 255#8 }.cfg ≤ { partialBench with count := 255#8 }.count.toNat + 1 := by decide

set_option maxRecDepth 8000 in
theorem witness_ForcedCycleEvents : { partialBench with count := 6#8 }.txnOpen = false
    ∧ paramThreshold { partialBench with count := 6#8 }.cfg ≤ { partialBench with count := 6#8 }.count.toNat + 1
    ∧ samplesIdle 45 { partialBench with count := 6#8 } := by decide

theorem witness_GhostingPolicyCycle : partialBench.txnOpen = false ∧ partialBench.fullMode = false ∧ partialBench.initialized = true
    ∧ partialBench.count = 0#8 ∧ 6 < paramThreshold partialBench.cfg := by decide

theorem draw_replicate (n j : Nat) (b : Bool) (rest : List Bool) (h : j < n) : drawOf (List.replicate n b ++ rest) j = b := by
  simp [drawOf, List.getElem?_append, h]

theorem draw_replicate_end (n : Nat) (b c : Bool) (rest : List Bool) : drawOf (List.replicate n b ++ c :: rest) n = c := by
  simp [drawOf]

theorem witness_WaitBusyIsBounded_first : (bench [false]).sampleAt 0 = false := rfl

/-- The last poll that can still end the wait. -/
theorem witness_WaitBusyIsBounded_last : (∀ j, j < 399 → (bench (List.replicate 399 true ++ [false])).sampleAt j = true)
    ∧ (bench (List.replicate 399 true ++ [false])).sampleAt 399 = false := by
  refine ⟨fun j h => ?_, ?_⟩
  · rw [State.sampleAt]; exact (congrArg _ (Nat.zero_add j)).trans (draw_replicate 399 j true [false] h)
  · rw [State.sampleAt]; exact (congrArg _ (Nat.zero_add 399)).trans (draw_replicate_end 399 true false [])

theorem witness_WaitBusyIsBounded_timeout : ∀ j, j < 400 → (bench (List.replicate 400 true ++ [])).sampleAt j = true := by
  intro j h
  rw [State.sampleAt]; exact (congrArg _ (Nat.zero_add j)).trans (draw_replicate 400 j true [] h)

theorem witness_OperationsAreBounded : exec .updatePf partialBench = .next (after .updatePf partialBench) := rfl

theorem witness_SetRotationChecksItsValue : (3#8 : Byte).toNat < 4 ∧ 4 ≤ (4#8 : Byte).toNat := by decide

/-- The last pixel of each axis, under the default maps; also meets DrawnPixelReadsBack and BlackOnWhiteChangesOneBit, and the first clause of GetPixelReadsTheBit. -/
theorem witness_DrawPixelWritesOneBit : inRange quietBench.cfg quietBench.rotation 15#16 1#16 = true
    ∧ quietBench.cfg.rotMap = defaultRotMap ∧ inRange profile 1#2 1#16 15#16 = true ∧ inRange profile 2#2 15#16 1#16 = true
    ∧ inRange profile 3#2 1#16 15#16 = true ∧ inRange profile 0#2 0#16 0#16 = true := by decide

/-- One past each end of each axis. -/
theorem witness_OutOfRangeDrawIsIgnored :
    ([(16, 0), (0, 2), (-1, 0), (0, -1)].all fun (xy : Int × Int) =>
      decide (¬(0 ≤ (BitVec.ofInt 16 xy.1).toInt ∧ (BitVec.ofInt 16 xy.1).toInt < logicalW quietBench.cfg quietBench.rotation
        ∧ 0 ≤ (BitVec.ofInt 16 xy.2).toInt ∧ (BitVec.ofInt 16 xy.2).toInt < logicalH quietBench.cfg quietBench.rotation))) = true := by
  decide

theorem witness_FillWritesEveryByte : 3 < bufBytes quietBench.cfg ∧ bufBytes quietBench.cfg ≤ 4 := by decide

theorem witness_GetPixelReadsTheBit : inRange quietBench.cfg quietBench.rotation 15#16 1#16 = true
    ∧ inRange quietBench.cfg quietBench.rotation 16#16 0#16 = false := by decide

theorem witness_DrawnPixelReadsBack : inRange quietBench.cfg quietBench.rotation 5#16 0#16 = true := by decide

theorem witness_BlackOnWhiteChangesOneBit : inRange quietBench.cfg quietBench.rotation 9#16 1#16 = true := by decide

theorem witness_PixelsHaveDistinctBits : inRange profile 0#2 15#16 1#16 = true ∧ inRange profile 0#2 15#16 1#16 = true
    ∧ pixelIndex profile 0#2 15#16 1#16 = pixelIndex profile 0#2 15#16 1#16 := by decide

theorem witness_ReadRegisterView : 7 ≤ (7#8 : Byte).toNat ∧ 7 ≤ (255#8 : Byte).toNat := by decide

/-- The quiet bench meets the whole invariant, and the next step runs an update; this also meets StepKeepsFraming,
StepKeepsLineLevels, StepKeepsBufferSound and StepKeepsParametersAndTrace. -/
theorem witness_StepKeepsBlockInvariant : blockInv (quietBench.present (.op 0x1500000000000000#64)) = true
    ∧ step (quietBench.present (.op 0x1500000000000000#64)) = .next (afterStep (quietBench.present (.op 0x1500000000000000#64))) :=
  ⟨by decide, rfl⟩

theorem witness_StepKeepsFraming : framed (openBench.present (.wire 0x24#8)) = true
    ∧ step (openBench.present (.wire 0x24#8)) = .next (afterStep (openBench.present (.wire 0x24#8))) := ⟨by decide, rfl⟩

theorem witness_StepKeepsLineLevels : linesIdle (openBench.present (.wire 0x24#8)) = true
    ∧ linesAgree (openBench.present (.wire 0x24#8)) = true
    ∧ step (openBench.present (.wire 0x24#8)) = .next (afterStep (openBench.present (.wire 0x24#8))) := ⟨by decide, by decide, rfl⟩

theorem witness_StepKeepsBufferSound : bufSound ((withBuf 1#8 2#8 3#8 4#8 quietBench).present (.op 0x14000000000000FF#64)) = true
    ∧ step ((withBuf 1#8 2#8 3#8 4#8 quietBench).present (.op 0x14000000000000FF#64))
      = .next (afterStep ((withBuf 1#8 2#8 3#8 4#8 quietBench).present (.op 0x14000000000000FF#64))) := ⟨by decide, rfl⟩

theorem witness_StepKeepsParametersAndTrace : step (quietBench.present (.op 0x0700000000000020#64))
    = .next (afterStep (quietBench.present (.op 0x0700000000000020#64))) := rfl

end Sys2Proof.Tests
end

/-! ### Proofs about the state at block reset (10_state.md) -/

namespace Sys2Proof.Machine

open Sys2Proof

/-- A buffer that lists nothing reads as its launch contents (R49, log 7). -/
theorem State.readByte_of_buf_nil {s : State} (h : s.buf = []) (i : Nat) : s.readByte i = Config.launchByte s.epoch i := by
  simp [State.readByte, h, memGet]

/-- Settles O1, row by row of R56. Every element but the pixel buffer is a field that `State.resetWith` sets; the buffer lists
nothing, so it reads as its launch contents. -/
theorem blockResetValues : Obligations.BlockResetValues := by
  have buffer (i : Nat) : State.reset.readByte i = Config.launchByte 0 i := State.readByte_of_buf_nil rfl i
  refine ⟨?txnOpen, ?cs, ?dc, ?rst, ?sck, ?mosi, ?rate, ?count, ?init, ?mode, ?power, ?rotation, ?status, ?sync1, ?sync2,
    ?busyLast, buffer, ?latched, ?position, ?loopCtr, ?ready, ?valid, ?word, ?refused⟩
  all_goals rfl

end Sys2Proof.Machine

/-! ### Proofs about the encoding (30_encoding.md) -/

namespace Sys2Proof

/-- The opcode field is the word shifted down to its top byte (R100). -/
theorem opcodeOf_toNat (w : OpWord) : (opcodeOf w).toNat = (w >>> 56).toNat := by
  have topByte : w.toNat >>> 56 < 2 ^ 8 := by
    rw [Nat.shiftRight_eq_div_pow]
    exact Nat.div_lt_of_lt_mul w.isLt
  rw [opcodeOf, BitVec.extractLsb'_toNat, BitVec.toNat_ushiftRight, Nat.mod_eq_of_lt topByte]

/-- The opcodes of the 21 rows of R112. -/
def assignedOpcodes : List Nat :=
  [0x01, 0x02, 0x03, 0x04, 0x05, 0x06, 0x07, 0x08, 0x10, 0x11, 0x12, 0x13, 0x14, 0x15, 0x16, 0x17, 0x18, 0x19, 0x1A, 0x1B, 0x1C]

/-- The opcode map rejects what is none of its rows, whatever the operand fields: the opcode check comes first (R304). -/
theorem decodeOp_of_unassigned {w : OpWord} (h : (opcodeOf w).toNat ∉ assignedOpcodes) :
    decodeOp w = .error (.unassignedOpcode (opcodeOf w)) := by
  unfold decodeOp
  split
  case h_22 => rfl
  all_goals
    next row => exact absurd (by rw [row]; decide) h

/-- Settles O12: the shifted word is the opcode field, and the opcode map has no row for it. -/
theorem unassignedOpcodesAreRejected : Obligations.UnassignedOpcodesAreRejected := by
  intro w unassigned
  rw [← opcodeOf_toNat] at unassigned
  exact decodeOp_of_unassigned unassigned

end Sys2Proof

/-! ### Proofs about the bus transaction framer (40_framer.md) -/

namespace Sys2Proof.Machine

open Sys2Proof

/-- An operation whose refusal check passes runs its body (60_exceptions.md R304). -/
theorem State.unless_of_not_bad {bad : Bool} (h : bad = false) (f : Flag) (body : State → State) (s : State) :
    s.unless bad f body = body s.beginOp := by
  simp [State.unless, h]

/-- An operation whose refusal check fails is refused, whatever its body (60_exceptions.md R301). -/
theorem State.unless_of_bad {bad : Bool} (h : bad = true) (f : Flag) (body : State → State) (s : State) :
    s.unless bad f body = s.refuse f := by
  simp [State.unless, h]

/-- A refusal is a refused response after the flag. -/
theorem State.refuse_eq_respond (f : Flag) (s : State) :
    s.refuse f = respond 0#32 true { s with status := s.status ||| flagMask f } := State.refuse_eq f s

/-! #### The panel hard reset and the bus configuration -/

/-- A panel hard reset that ends its operation: the pulse with its two delays, and the two bits it clears (R150). -/
theorem State.answer_resetSeq (w : Word) (s : State) : s.resetSeq.answer w = respond w false
    { s with rstN := true, initialized := false, powerOn := false, trace := s.trace ++ hardResetEvents } := by
  have pulse : s.trace ++ [.rst false] ++ [.delay resetMs] ++ [.rst true] ++ [.delay resetMs] = s.trace ++ hardResetEvents := by
    simp only [List.append_assoc, List.cons_append, List.nil_append, hardResetEvents, resetMs]
  rw [State.resetSeq_eq, State.answer_eq, pulse, respond]

/-- What a bus configuration does (R149): the rate and the idle levels, and the flag of an abandoned transaction. -/
theorem State.busConfig_eq (f : Word) (s : State) : s.busConfig f = { s with
    spiHz := f, txnOpen := false, csN := true, dc := true, rstN := true, sck := false,
    status := if s.txnOpen then s.status ||| flagMask .errTxnAbandoned else s.status,
    trace := s.trace ++ [.cfg f, .idle], position := s.position + 2 } := by
  cases isOpen : s.txnOpen <;> simp [State.busConfig, State.raiseIf, State.raise, State.emit, isOpen]

/-- Settles O14: `BUS_RESET` has no refusal check, and its body is the panel hard reset. -/
theorem busResetPulsesPanelReset : Obligations.BusResetPulsesPanelReset := by
  intro s
  have body : exec .busReset s = .next (s.beginOp.resetSeq.answer 0#32) := rfl
  rw [body, State.answer_resetSeq]
  rfl

/-- Settles O15: a rate other than 0 passes the check, and the body is the bus configuration before the panel hard reset. -/
theorem busInitConfiguresAndResets : Obligations.BusInitConfiguresAndResets := by
  intro f s
  have meaning : exec (.busInit f) s
      = .next (s.unless (f == 0#32) .errIllegalOp fun t => ((t.busConfig f).resetSeq).answer 0#32) := rfl
  refine ⟨fun nonzero => ?configured, fun zero => ?refused⟩
  case configured =>
    have passes : (f == 0#32) = false := beq_eq_false_iff_ne.mpr nonzero
    rw [meaning, State.unless_of_not_bad passes, State.answer_resetSeq, State.busConfig_eq]
    simp only [List.append_assoc, flagMask_words]
    rfl
  case refused =>
    have fails : (f == 0#32) = true := beq_iff_eq.mpr zero
    rw [meaning, State.unless_of_bad fails, State.refuse_eq_respond]
    simp only [flagMask_words]

/-! #### One byte, raw and in a transaction of its own -/

/-- The raw write of a byte: `WCMD` or `WDATA` (R155, R156). -/
def byteWrite : WireByte → Instr
  | .cmd b => .wcmd b
  | .dat b => .wdata b

/-- The write of a byte in a transaction of its own: `WCMD_T` or `WDATA_T` (R157, R158). -/
def oneByteForm : WireByte → Instr
  | .cmd b => .wcmdT b
  | .dat b => .wdataT b

section Sequences

variable {s : State}

theorem exec_txnStart_closed (closed : s.txnOpen = false) : exec .txnStart s = .next (s.beginOp.txnBegin.answer 0#32) :=
  congrArg Host.Outcome.next (State.unless_of_not_bad closed _ _ s)

theorem exec_txnStart_open (isOpen : s.txnOpen = true) : exec .txnStart s = .next (s.refuse .errReentrant) :=
  congrArg Host.Outcome.next (State.unless_of_bad isOpen _ _ s)

theorem exec_txnEnd_open (isOpen : s.txnOpen = true) : exec .txnEnd s = .next (s.beginOp.txnEnd.answer 0#32) :=
  congrArg Host.Outcome.next (State.unless_of_not_bad (by simp [isOpen]) _ _ s)

theorem exec_byteWrite_open (w : WireByte) (isOpen : s.txnOpen = true) :
    exec (byteWrite w) s = .next ((s.beginOp.shift w).answer 0#32) := by
  have passes : (!s.txnOpen) = false := by simp [isOpen]
  cases w <;> exact congrArg Host.Outcome.next (State.unless_of_not_bad passes _ _ s)

theorem exec_oneByteForm_closed (w : WireByte) (closed : s.txnOpen = false) :
    exec (oneByteForm w) s = .next ((s.beginOp.txn [w]).answer 0#32) := by
  cases w <;> exact congrArg Host.Outcome.next (State.unless_of_not_bad closed _ _ s)

theorem exec_oneByteForm_open (w : WireByte) (isOpen : s.txnOpen = true) :
    exec (oneByteForm w) s = .next (s.refuse .errReentrant) := by
  cases w <;> exact congrArg Host.Outcome.next (State.unless_of_bad isOpen _ _ s)

theorem execAll_cons_of_next {i : Instr} {t : State} (h : exec i s = .next t) (is : List Instr) :
    execAll (i :: is) s = execAll is t := by
  simp [execAll, h]

/-- The response between two operations leaves no mark on a transaction's end. -/
theorem State.answer_txnEnd_answer (v w : Word) (s : State) : (s.answer v).beginOp.txnEnd.answer w = s.txnEnd.answer w := by
  simp only [State.answer_eq, State.beginOp, State.txnEnd, State.emit]

/-- The response between two operations leaves no mark on a byte and the transaction's end after it. -/
theorem State.answer_shift_txnEnd_answer (v w : Word) (b : WireByte) (s : State) :
    ((s.answer v).beginOp.shift b).txnEnd.answer w = (s.shift b).txnEnd.answer w := by
  simp only [State.answer_eq, State.beginOp, State.shift_eq, State.txnEnd, State.emit]

/-- Inside a transaction, a byte write and `TXN_END` shift the byte and close it. -/
theorem execAll_byteWrite_txnEnd (w : WireByte) (isOpen : s.txnOpen = true) :
    execAll [byteWrite w, .txnEnd] s = some ((s.beginOp.shift w).txnEnd.answer 0#32) := by
  have stillOpen : ((s.beginOp.shift w).answer 0#32).txnOpen = true := by simp [isOpen]
  rw [execAll_cons_of_next (exec_byteWrite_open w isOpen), execAll_cons_of_next (exec_txnEnd_open stillOpen),
    State.answer_txnEnd_answer, execAll]

/-- With no transaction open the sequence is one transaction of one byte (R160). -/
theorem execAll_sequence_closed (w : WireByte) (closed : s.txnOpen = false) :
    execAll [.txnStart, byteWrite w, .txnEnd] s = some ((s.beginOp.txn [w]).answer 0#32) := by
  have opened : (s.beginOp.txnBegin.answer 0#32).txnOpen = true := by simp
  rw [execAll_cons_of_next (exec_txnStart_closed closed), execAll_byteWrite_txnEnd w opened,
    State.answer_shift_txnEnd_answer]
  rfl

/-- With one open the sequence's `TXN_START` is refused, and the byte and the closing are those of the open transaction. -/
theorem execAll_sequence_open (w : WireByte) (isOpen : s.txnOpen = true) :
    execAll [.txnStart, byteWrite w, .txnEnd] s
      = some (((s.refuse .errReentrant).beginOp.shift w).txnEnd.answer 0#32) := by
  have stillOpen : (s.refuse .errReentrant).txnOpen = true := by simp [isOpen]
  rw [execAll_cons_of_next (exec_txnStart_open isOpen), execAll_byteWrite_txnEnd w stillOpen]

/-- What shows of the sequence where a transaction is open: the byte and `CsOff` on the trace, the transaction closed, and the
flag of the refused `TXN_START`. -/
theorem execAll_sequence_open_outcome (w : WireByte) (isOpen : s.txnOpen = true) :
    ∃ t, execAll [.txnStart, byteWrite w, .txnEnd] s = some t ∧ t.trace = s.trace ++ [wireEvent w, .csOff]
      ∧ t.txnOpen = false ∧ t.status = s.status ||| 0x002#12 :=
  ⟨_, execAll_sequence_open w isOpen, by simp, by simp, by simp⟩

/-- The one-byte form equals its sequence where no transaction is open (R160). -/
theorem oneByteForm_matches_sequence (w : WireByte) (closed : s.txnOpen = false) :
    ∃ t, exec (oneByteForm w) s = .next t ∧ execAll [.txnStart, byteWrite w, .txnEnd] s = some t :=
  ⟨_, exec_oneByteForm_closed w closed, execAll_sequence_closed w closed⟩

end Sequences

/-- Settles O19. Both halves are stated for a byte of either kind; with a transaction open the one-byte forms of both kinds end
in the same refusal. -/
theorem oneByteFormsMatchSequences : Obligations.OneByteFormsMatchSequences := by
  intro b s
  refine ⟨oneByteForm_matches_sequence (.cmd b), oneByteForm_matches_sequence (.dat b), fun isOpen => ?differ⟩
  obtain ⟨u, runCmd, traceCmd, closedCmd, statusCmd⟩ := execAll_sequence_open_outcome (.cmd b) isOpen
  obtain ⟨v, runDat, traceDat, closedDat, statusDat⟩ := execAll_sequence_open_outcome (.dat b) isOpen
  have quiet : (s.refuse .errReentrant).trace = s.trace := by simp
  have keepsOpen : (s.refuse .errReentrant).txnOpen = true := by simp [isOpen]
  have flagged : (s.refuse .errReentrant).status = s.status ||| 0x002#12 := by simp
  have refused : (s.refuse .errReentrant).rspRefused = true := by simp
  exact ⟨s.refuse .errReentrant, u, v, exec_oneByteForm_open (.cmd b) isOpen, quiet, keepsOpen, flagged, refused,
    runCmd, traceCmd, closedCmd, statusCmd, exec_oneByteForm_open (.dat b) isOpen, runDat, traceDat, closedDat, statusDat⟩

end Sys2Proof.Machine

/-! ### Proofs about the panel protocol engine (42_engine.md) -/

namespace Sys2Proof.Machine

open Sys2Proof

/-! #### The restore of a snapshot -/

/-- What a restore does (R222): the clamp is a minimum, and the flag says where it took effect. -/
theorem State.restore_eq (snap : Word) (s : State) : s.restore snap = { s with
    fullMode := snap.getLsbD 1, powerOn := snap.getLsbD 2, initialized := false,
    count := BitVec.ofNat 8 (min (snap.extractLsb' 8 8).toNat (paramThreshold s.cfg)),
    status := if paramThreshold s.cfg < (snap.extractLsb' 8 8).toNat then s.status ||| 0x800#12 else s.status } := by
  unfold State.restore State.raiseIf snapFullMode snapPowerOn snapCount
  generalize snap.extractLsb' 8 8 = count
  by_cases above : paramThreshold s.cfg < count.toNat
  · simp [above, Nat.min_eq_right (Nat.le_of_lt above), State.raise]
  · simp [above, Nat.min_eq_left (Nat.le_of_not_lt above)]

/-- The body of `INIT` keeps the parameters. -/
theorem State.initBus_cfg (s : State) : s.initBus.cfg = s.cfg := by
  simp [State.initBus, State.txConfig, State.txn_eq]

/-- The body of `INIT` leaves the panel uninitialized: it contains the hard reset (R150). -/
theorem State.initBus_initialized (s : State) : s.initBus.initialized = false := by
  simp [State.initBus, State.txConfig, State.txn_eq]

/-- Settles O29: after the body of `INIT`, which both operations share, the restore has no `initialized` to clear, and the
response touches no field that it sets. -/
theorem initRestoresSnapshot : Obligations.InitRestoresSnapshot := by
  intro snap s
  have cfg : s.beginOp.initBus.cfg = s.cfg := State.initBus_cfg s.beginOp
  have uninitialized : s.beginOp.initBus.initialized = false := State.initBus_initialized s.beginOp
  refine ⟨(s.beginOp.initBus.restore snap).answer 0#32, s.beginOp.initBus.answer 0#32, rfl, rfl, ?cleared, ?restored⟩
  case cleared => simp [State.restore_eq]
  case restored => simp only [State.restore_eq, State.answer_eq, cfg, uninitialized]

/-! #### Counting what a helper sends -/

/-- The counts of R232: transactions, pixel bursts, activations, and commands of the RAM window and its pointer. -/
abbrev Tally := Nat × Nat × Nat × Nat

/-- The counts of R232 in a list of events. -/
def tally (evs : List Event) : Tally :=
  (evs.countP isTxnOpening, evs.count (.cmd 0x24#8), evs.count (.cmd 0x20#8), evs.countP isWindowCommand)

theorem tally_append (es fs : List Event) : tally (es ++ fs) = tally es + tally fs := by
  simp [tally]

theorem tally_cons (e : Event) (es : List Event) : tally (e :: es) = tally [e] + tally es :=
  tally_append [e] es

/-- Data bytes count for nothing. -/
theorem tally_data (xs : List Byte) : tally ((xs.map .dat).map wireEvent) = 0 := by
  induction xs with
  | nil => rfl
  | cons x xs ih =>
    rw [List.map_cons, List.map_cons, tally_cons, ih]
    rfl

/-- The polls and delays of a busy wait count for nothing. -/
theorem tally_busyPollEvents (k : Nat) : tally (busyPollEvents k) = 0 := by
  induction k with
  | zero => rfl
  | succ k ih =>
    rw [busyPollEvents, tally_cons, tally_cons (.delay pollMs), ih]
    rfl

/-- A command with data bytes after it counts for its command byte. -/
theorem tally_cmd_data (c : Byte) (xs : List Byte) :
    tally ((.cmd c :: xs.map WireByte.dat).map wireEvent) = tally [.cmd c] := by
  rw [List.map_cons, tally_cons, tally_data]
  rfl

/-- From `s` to `t` the block has sent events with these counts, and kept parameters, mode and `initialized`; where no
transaction was open, none is. What every protocol helper does (41_sequencer.md R197). -/
structure Sends (n : Tally) (s t : State) : Prop where
  cfg : t.cfg = s.cfg
  fullMode : t.fullMode = s.fullMode
  initialized : t.initialized = s.initialized
  closed : s.txnOpen = false → t.txnOpen = false
  events : ∃ evs, t.trace = s.trace ++ evs ∧ tally evs = n

theorem Sends.trans {m n : Tally} {s t u : State} (first : Sends m s t) (second : Sends n t u) : Sends (m + n) s u := by
  obtain ⟨es, trace_t, rfl⟩ := first.events
  obtain ⟨fs, trace_u, rfl⟩ := second.events
  exact {
    cfg := second.cfg.trans first.cfg
    fullMode := second.fullMode.trans first.fullMode
    initialized := second.initialized.trans first.initialized
    closed := second.closed ∘ first.closed
    events := ⟨es ++ fs, by rw [trace_u, trace_t, List.append_assoc], tally_append es fs⟩ }

/-- An update of other fields alone sends nothing. -/
theorem Sends.silent {s t : State} (cfg : t.cfg = s.cfg) (fullMode : t.fullMode = s.fullMode)
    (initialized : t.initialized = s.initialized) (txnOpen : t.txnOpen = s.txnOpen) (trace : t.trace = s.trace) : Sends 0 s t :=
  ⟨cfg, fullMode, initialized, txnOpen.trans, [], by rw [trace, List.append_nil], rfl⟩

/-- The counts are those of the events between the two states. -/
theorem Sends.tally_newEvents {n : Tally} {s t : State} (h : Sends n s t) : tally (newEvents s t) = n := by
  obtain ⟨evs, trace_t, counted⟩ := h.events
  rw [newEvents, trace_t, List.drop_left, counted]

/-! #### The counts of each helper -/

theorem State.raiseIf_sends (c : Bool) (f : Flag) (s : State) : Sends 0 s (s.raiseIf c f) :=
  .silent (by simp) (by simp) (by simp) (by simp) (by simp)

theorem State.doIf_sends {n : Tally} {f : State → State} (c : Bool) {s : State} (h : Sends n s (f s)) :
    Sends (if c then n else 0) s (s.doIf c f) := by
  cases c with
  | true => exact h
  | false => exact .silent rfl rfl rfl rfl rfl

theorem State.waitBusy_sends (s : State) : Sends 0 s s.waitBusy := by
  rcases Nat.lt_or_ge (busyRun s.panel maxPolls s.drawIx) maxPolls with completes | capped
  · rw [State.waitBusy_completes s completes]
    refine ⟨rfl, rfl, rfl, id, _, rfl, ?_⟩
    rw [tally_append, tally_busyPollEvents]
    rfl
  · rw [State.waitBusy_timesOut s (Nat.le_antisymm (busyRun_le _ _ _) capped)]
    exact ⟨rfl, rfl, rfl, id, _, rfl, tally_busyPollEvents maxPolls⟩

/-- One transaction, and what its bytes count for. -/
theorem State.txn_sends (bs : List WireByte) (s : State) :
    Sends ((1, 0, 0, 0) + tally (bs.map wireEvent)) s (s.txn bs) := by
  rw [State.txn_eq]
  refine ⟨rfl, rfl, rfl, fun _ => rfl, _, rfl, ?_⟩
  rw [tally_append, tally_cons]
  rfl

theorem State.setAddresses_sends (s : State) : Sends (2, 0, 0, 4) s s.setAddresses :=
  (State.txn_sends (ramAreaBytes 0#8 (lastXByte s.cfg) 0#16 (lastRow s.cfg)) s).trans
    (State.txn_sends (ramPointerBytes 0#8 0#16) _)

theorem State.writeLut_sends (full : Bool) (s : State) : Sends (1, 0, 0, 0) s (s.writeLut full) := by
  have sent := State.txn_sends (lutBytes (if full then s.cfg.lutFull else s.cfg.lutPart)) s
  rw [lutBytes, tally_cmd_data] at sent
  exact sent

/-- A busy wait under a policy counts for nothing either way. -/
theorem State.doIf_waitBusy_sends (c : Bool) (s : State) : Sends 0 s (s.doIf c State.waitBusy) := by
  simpa only [ite_self] using State.doIf_sends c (State.waitBusy_sends s)

theorem State.setPower_sends (on : Bool) (s : State) : Sends 0 s { s with powerOn := on } :=
  .silent rfl rfl rfl rfl rfl

/-- Both power sequences (R190, R191): one transaction with an activation, the new `power_on`, and the wait of the policy. -/
theorem State.powerSeq_sends (wrong : Bool) (ctrl : Byte) (on wait : Bool) (s : State) :
    Sends (1, 0, 1, 0) s
      ({ (s.raiseIf wrong .errPowerState).txn (powerBytes ctrl) with powerOn := on }.doIf wait State.waitBusy) := by
  have sent := (State.raiseIf_sends wrong .errPowerState s).trans (State.txn_sends (powerBytes ctrl) _)
  exact (sent.trans (State.setPower_sends on _)).trans (State.doIf_waitBusy_sends wait _)

theorem State.powerOnSeq_sends (s : State) : Sends (1, 0, 1, 0) s s.powerOnSeq :=
  State.powerSeq_sends _ _ true _ s

theorem State.powerOffSeq_sends (s : State) : Sends (1, 0, 1, 0) s s.powerOffSeq :=
  State.powerSeq_sends _ _ false _ s

theorem State.writeDisplayData_sends (s : State) : Sends (1, 1, 0, 0) s s.writeDisplayData := by
  have sent := State.txn_sends (burstBytes s.waitBusy.bufImage) s.waitBusy
  rw [burstBytes, tally_cmd_data] at sent
  exact (State.waitBusy_sends s).trans sent

theorem State.activate_sends (s : State) : Sends (1, 0, 1, 0) s s.activate := by
  unfold State.activate
  split
  · exact State.txn_sends (activationBytes ctrlUpdateFull) s
  · exact State.txn_sends (activationBytes ctrlUpdatePart) s

/-! #### A mode entry -/

/-- What makes a mode entry the no-op of R231: the panel is in that mode and initialized, and no transaction is open. -/
structure Entered (f : Bool) (s : State) : Prop where
  mode : s.fullMode = f
  initialized : s.initialized = true
  closed : s.txnOpen = false

theorem Sends.entered {n : Tally} {f : Bool} {s t : State} (run : Sends n s t) (h : Entered f s) : Entered f t :=
  ⟨run.fullMode.trans h.mode, run.initialized.trans h.initialized, run.closed h.closed⟩

theorem Entered.answerDone {f : Bool} {s : State} (h : Entered f s) : Entered f s.answerDone :=
  ⟨by simpa [State.answerDone] using h.mode, by simpa [State.answerDone] using h.initialized,
    by simpa [State.answerDone] using h.closed⟩

/-- The entry sequence sets the mode first, and its helpers keep it. -/
theorem State.enterModeRun_entered (f : Bool) {s : State} (closed : s.txnOpen = false) : Entered f (s.enterModeRun f) := by
  unfold State.enterModeRun
  extract_lets s1 s2
  have set : Entered f s1 := ⟨rfl, rfl, closed⟩
  have windowed := (State.doIf_sends f (State.setAddresses_sends s1)).entered set
  have loaded := (State.writeLut_sends f _).entered windowed
  have powered : Entered f s2 := (State.powerOnSeq_sends _).entered loaded
  exact (State.doIf_sends _ (State.powerOffSeq_sends s2)).entered powered

/-- A mode entry in that mode and initialized does nothing (R224). -/
theorem State.enterMode_of_entered {f : Bool} {s : State} (h : Entered f s) : s.enterMode f = s := by
  simp [State.enterMode, h.mode, h.initialized]

/-- Either branch of a mode entry leaves the panel entered. -/
theorem State.enterMode_entered (f : Bool) {s : State} (closed : s.txnOpen = false) : Entered f (s.enterMode f) := by
  by_cases already : s.fullMode = f ∧ s.initialized = true
  · obtain ⟨mode, initialized⟩ := already
    have entered : Entered f s := ⟨mode, initialized, closed⟩
    rwa [State.enterMode_of_entered entered]
  · have runs : s.enterMode f = s.enterModeRun f := by
      rw [State.enterMode, if_neg (by simpa using already)]
    rw [runs]
    exact State.enterModeRun_entered f closed

/-- `ENTER_FULL` and `ENTER_PARTIAL` outside a transaction. -/
theorem exec_modeEntry (f : Bool) {s : State} (closed : s.txnOpen = false) :
    exec (if f then .enterFull else .enterPartial) s = .next ((s.beginOp.enterMode f).answerDone) := by
  cases f <;> exact congrArg Host.Outcome.next (State.unless_of_not_bad closed _ _ s)

/-- A mode entry in that mode and initialized changes nothing but the response, which is 0 (R224, R231). -/
theorem exec_modeEntry_of_entered {f : Bool} {s : State} (h : Entered f s) :
    exec (if f then .enterFull else .enterPartial) s = .next (respond 0#32 false s) := by
  have begun : Entered f s.beginOp := ⟨h.mode, h.initialized, h.closed⟩
  have nothingDone : doneWord s.beginOp.opDone s.beginOp.opTimeout s.beginOp.forced = 0#32 := by simp [doneWord]
  rw [exec_modeEntry f h.closed, State.enterMode_of_entered begun, State.answerDone, nothingDone, State.answer_eq]
  rfl

/-- Settles O32: the first entry, whether it is the no-op or runs, leaves the panel entered, and the response between the two
changes nothing of that. -/
theorem secondModeEntryIsNoOp : Obligations.SecondModeEntryIsNoOp := by
  intro f s t closed first
  rw [exec_modeEntry f closed, Host.Outcome.next.injEq] at first
  have entered : Entered f (s.beginOp.enterMode f) := State.enterMode_entered f closed
  subst first
  exact exec_modeEntry_of_entered entered.answerDone

/-! #### The transactions of an update -/

/-- What one transfer of the buffer counts for: the window is programmed in partial mode only (R226). -/
def transferTally (full : Bool) : Tally := (if !full then (2, 0, 0, 4) else 0) + (1, 1, 0, 0)

theorem State.transfer_sends {full : Bool} {s : State} (mode : s.fullMode = full) :
    Sends (transferTally full) s s.transfer := by
  subst mode
  exact (State.doIf_sends _ (State.setAddresses_sends s)).trans (State.writeDisplayData_sends _)

/-- What a performed update counts for: power-on, transfer, activation, the second transfer of partial mode, power-off (R226). -/
def updateTally (s : State) : Tally :=
  (if !s.powerOn then (1, 0, 1, 0) else 0) + transferTally s.fullMode + (1, 0, 1, 0)
    + (if !s.fullMode then transferTally s.fullMode else 0) + (if s.cfg.powerOffAfterUpdate then (1, 0, 1, 0) else 0)

theorem State.performUpdate_sends (s : State) : Sends (updateTally s) s s.performUpdate := by
  unfold State.performUpdate
  extract_lets s1 s2 s3 s4
  have flagged : Sends 0 s s1 := State.raiseIf_sends _ _ s
  have power : s1.powerOn = s.powerOn := by simp [s1]
  have powered := flagged.trans (State.doIf_sends (!s1.powerOn) (State.powerOnSeq_sends s1))
  have activated := (powered.trans (State.transfer_sends powered.fullMode)).trans (State.activate_sends _)
  have mode : s2.fullMode = s.fullMode := activated.fullMode
  have transferred := activated.trans (State.doIf_sends (!s2.fullMode) (State.transfer_sends mode))
  have waited := transferred.trans (State.doIf_waitBusy_sends s3.cfg.syncMode s3)
  have cfg : s4.cfg = s.cfg := waited.cfg
  have ended := waited.trans (State.doIf_sends s4.cfg.powerOffAfterUpdate (State.powerOffSeq_sends s4))
  convert ended using 1
  simp only [updateTally, power, mode, cfg, zero_add, add_zero]

/-- The end of an update, `op_done` and the response, sends nothing. -/
theorem State.answerDone_sends (done : Bool) (s : State) : Sends 0 s { s with opDone := done }.answerDone :=
  .silent (by simp [State.answerDone]) (by simp [State.answerDone]) (by simp [State.answerDone]) (by simp [State.answerDone])
    (by simp [State.answerDone])

/-- A synchronous `UPDATE` outside a transaction performs the update and answers. -/
theorem exec_update_sync {s : State} (closed : s.txnOpen = false) (sync : s.cfg.syncMode = true) :
    ∃ t, exec .update s = .next t ∧ Sends (updateTally s) s t := by
  have runs : exec .update s = .next s.beginOp.updateOnce.answerDone :=
    congrArg Host.Outcome.next (State.unless_of_not_bad closed _ _ s)
  rw [State.updateOnce, State.doUpdate_sync s.beginOp sync] at runs
  have began : Sends 0 s s.beginOp := .silent rfl rfl rfl rfl rfl
  have sent := (began.trans (State.performUpdate_sends s.beginOp)).trans (State.answerDone_sends true _)
  rw [zero_add, add_zero] at sent
  exact ⟨_, runs, sent⟩

/-- Settles O38: the counts of an update are the sum over its helpers; with power on and kept on, transfers and activation are
all. -/
theorem updateTransactionCounts : Obligations.UpdateTransactionCounts := by
  intro s closed sync powered noPowerOff
  obtain ⟨t, runs, sent⟩ := exec_update_sync closed sync
  have counts := sent.tally_newEvents
  rw [updateTally, powered, noPowerOff] at counts
  refine ⟨t, runs, ?_⟩
  cases mode : s.fullMode with
  | true => simpa [mode, tally, transferTally] using counts
  | false => simpa [mode, tally, transferTally] using counts

end Sys2Proof.Machine

/-! ### Proofs about the pixel buffer and rotation (43_pixels.md) -/

namespace Sys2Proof.Machine

open Sys2Proof

/-- The response of an operation that is not refused, in the vocabulary of the statements (R303). It clears what the beginning
of the operation cleared, so the response from `s.beginOp` is also the response from `s` (R14, R32). -/
theorem State.answer_eq_respond (w : Word) (s : State) : s.answer w = respond w false s := State.answer_eq w s

/-! #### SET_ROTATION -/

/-- What `SET_ROTATION` does: one range check, and a response either way (R260). -/
theorem exec_setRotation (r : Byte) (s : State) :
    exec (.setRotation r) s = .next (respond 0#32 false
      (if 4 ≤ r.toNat then s.beginOp.raise .errRotation else { s.beginOp with rotation := r.extractLsb' 0 2 })) :=
  congrArg Host.Outcome.next (State.answer_eq_respond 0#32 _)

/-- Settles O47, by the two branches of the range check: the rotation takes the operand's two low bits, or the flag is raised;
neither is a refusal. -/
theorem setRotationChecksItsValue : Obligations.SetRotationChecksItsValue := by
  intro r s
  rw [exec_setRotation]
  refine ⟨fun low => ?rotated, fun high => ?reported⟩
  case rotated =>
    have twoBits : r.extractLsb' 0 2 = r.setWidth 2 := (BitVec.setWidth_eq_extractLsb' (by decide)).symm
    rw [if_neg (Nat.not_le.mpr low), twoBits]
    rfl
  case reported =>
    have flagged : respond 0#32 false (s.beginOp.raise .errRotation)
        = respond 0#32 false { s with status := s.status ||| flagMask .errRotation } := rfl
    rw [if_pos high, flagged]
    simp only [flagMask_words]

/-! #### FILL -/

/-- A fill ends at the buffer's size: it leaves every byte from there on alone (R265). -/
theorem State.readByte_fillBuf_of_le (v : Byte) (s : State) {i : Nat} (above : bufBytes s.cfg ≤ i) :
    (s.fillBuf v).readByte i = s.readByte i := by
  simp [State.readByte, State.fillBuf, memGet_memFill, Nat.not_lt.mpr above]

/-- What `FILL` does: the fill with the colour's low byte, and its response (R265). -/
theorem exec_fill (c : Half) (s : State) : exec (.fill c) s = .next (respond 0#32 false (s.fillBuf (fillByte c))) :=
  congrArg Host.Outcome.next (State.answer_eq_respond 0#32 (s.beginOp.fillBuf (fillByte c)))

/-- A response leaves the buffer alone (R303). -/
theorem readByte_respond (w : Word) (refused : Bool) (s : State) : (respond w refused s).readByte = s.readByte :=
  State.readByte_congr s _ rfl rfl

/-- Settles O50: the response keeps the buffer, whose bytes the fill has written up to the buffer's size and no further. -/
theorem fillWritesEveryByte : Obligations.FillWritesEveryByte := by
  intro c s
  have lowByte : fillByte c = c.setWidth 8 := (BitVec.setWidth_eq_extractLsb' (by decide)).symm
  refine ⟨_, exec_fill c s, rfl, fun i below => ?filled, fun i above => ?kept⟩
  case filled => rw [readByte_respond, State.readByte_fillBuf _ s i below, lowByte]
  case kept => rw [readByte_respond, State.readByte_fillBuf_of_le _ s above]

/-! #### GET_PIXEL -/

/-- What `GET_PIXEL` does: its answer, from the state in which it was accepted (R266). -/
theorem exec_getPixel (x y : Half) (s : State) : exec (.getPixel x y) s = .next (respond (pixelAnswer s x y) false s) :=
  congrArg Host.Outcome.next (State.answer_eq_respond (pixelAnswer s x y) s.beginOp)

/-- The answer for a pixel of the panel is its bit: 0 exactly when the mask selects nothing of its byte (R266). -/
theorem pixelAnswer_of_inRange {x y : Half} {s : State} (inside : inRange s.cfg s.rotation x y = true) :
    pixelAnswer s x y
      = if s.readByte (pixelIndex s.cfg s.rotation x y) &&& pixelMask s.cfg s.rotation x y = 0#8 then 0#32 else 1#32 := by
  rw [pixelAnswer, if_pos inside]
  generalize s.readByte (pixelIndex s.cfg s.rotation x y) &&& pixelMask s.cfg s.rotation x y = bit
  by_cases black : bit = 0#8 <;> simp [black]

/-- The answer for a pixel outside the panel is `OUT_OF_RANGE` (R266). -/
theorem pixelAnswer_of_not_inRange {x y : Half} {s : State} (outside : inRange s.cfg s.rotation x y = false) :
    pixelAnswer s x y = 0x100#32 := by
  simp [pixelAnswer, outside]

/-- Settles O51: the state is the accepting one with the answer, in both branches of the range check. -/
theorem getPixelReadsTheBit : Obligations.GetPixelReadsTheBit := by
  intro x y s
  rw [exec_getPixel]
  refine ⟨fun inside => ?bit, fun outside => ?outOfRange⟩
  case bit => rw [pixelAnswer_of_inRange inside]
  case outOfRange => rw [pixelAnswer_of_not_inRange outside]

end Sys2Proof.Machine

/-! ### Proofs about the register view and the status clear (44_system.md) -/

namespace Sys2Proof.Machine

open Sys2Proof

/-! #### CLEAR_STATUS -/

/-- Settles O23: there is no refusal check, and the body clears the flags under the mask before it responds. -/
theorem clearStatusClearsMaskedFlags : Obligations.ClearStatusClearsMaskedFlags := by
  intro m s
  have meaning : exec (.clearStatus m) s = .next ((s.beginOp.clearFlags m).answer 0#32) := rfl
  rw [meaning, State.answer_eq_respond]
  rfl

/-! #### The ranges of the parameters (R8, R9) -/

/-- A clamped value is at most the end of its range. -/
theorem clampTo_le {lo hi : Nat} (nonempty : lo ≤ hi) (v : Nat) : clampTo lo hi v ≤ hi :=
  max_le nonempty (min_le_left hi v)

theorem paramW_le (p : Params) : paramW p ≤ 2048 := clampTo_le (by decide) _

theorem paramH_le (p : Params) : paramH p ≤ 32767 := clampTo_le (by decide) _

theorem paramThreshold_le (p : Params) : paramThreshold p ≤ 255 := clampTo_le (by decide) _

/-- A row of the widest panel is 256 bytes. -/
theorem rowBytes_le (p : Params) : rowBytes p ≤ 256 := by
  have width := paramW_le p
  unfold rowBytes ceilDiv
  omega

theorem bufBytes_le (p : Params) : bufBytes p ≤ 256 * 32767 := Nat.mul_le_mul (rowBytes_le p) (paramH_le p)

/-- A number is read back from a field that holds it. -/
theorem toNat_ofNat_of_le {n hi : Nat} (within : n ≤ hi) (w : Nat) (holds : hi < 2 ^ w) : (BitVec.ofNat w n).toNat = n :=
  (BitVec.toNat_ofNat n w).trans (Nat.mod_eq_of_lt (Nat.lt_of_le_of_lt within holds))

/-! #### The fields of the packed registers

Each field is one part of a concatenation: the less significant parts are skipped (`extract_append_high`) and the more significant
ones dropped (`extract_append_low`); a single bit is found by the same comparisons. -/

/-- The `STATUS` register (R52). -/
theorem statusRegister_fields (s : State) :
    (statusRegister s).extractLsb' 0 12 = s.status ∧ (statusRegister s).extractLsb' 12 4 = 0#4
      ∧ (statusRegister s).getLsbD 16 = s.txnOpen ∧ (statusRegister s).getLsbD 17 = s.busyLast
      ∧ (statusRegister s).extractLsb' 18 14 = 0#14 := by
  simp (disch := decide) only [statusRegister, extract_append_low, extract_append_high, BitVec.getLsbD_append]
  simp

/-- The `STATE` register (R53). -/
theorem stateRegister_fields (s : State) :
    (stateRegister s).getLsbD 0 = s.initialized ∧ (stateRegister s).getLsbD 1 = s.fullMode
      ∧ (stateRegister s).getLsbD 2 = s.powerOn ∧ (stateRegister s).extractLsb' 3 5 = 0#5
      ∧ (stateRegister s).extractLsb' 8 8 = s.count ∧ (stateRegister s).extractLsb' 16 16 = 0#16 := by
  simp (disch := decide) only [stateRegister, extract_append_low, extract_append_high, BitVec.getLsbD_append]
  simp

/-- The `CONFIG` register (R54). -/
theorem configRegister_fields (p : Params) :
    (configRegister p).getLsbD 0 = p.syncMode ∧ (configRegister p).getLsbD 1 = p.powerOffAfterModeEntry
      ∧ (configRegister p).getLsbD 2 = p.powerOffAfterUpdate ∧ (configRegister p).getLsbD 3 = p.powerSeqWait
      ∧ (configRegister p).extractLsb' 4 4 = 0#4
      ∧ (configRegister p).extractLsb' 8 8 = BitVec.ofNat 8 (paramThreshold p)
      ∧ (configRegister p).extractLsb' 16 8 = paramPowerOffCtrl p
      ∧ (configRegister p).extractLsb' 24 8 = BitVec.ofNat 8 lutLen := by
  simp (disch := decide) only [configRegister, extract_append_low, extract_append_high, BitVec.getLsbD_append]
  simp

/-- The `GEOMETRY` register (R51). -/
theorem geometryRegister_fields (p : Params) :
    (geometryRegister p).extractLsb' 0 16 = BitVec.ofNat 16 (paramW p)
      ∧ (geometryRegister p).extractLsb' 16 16 = BitVec.ofNat 16 (paramH p) := by
  simp (disch := decide) only [geometryRegister, extract_append_low, extract_append_high]
  simp

/-! #### READ_REG -/

/-- The registers end at number 6 (R51). -/
theorem registerView_of_reserved {n : Byte} (reserved : 7 ≤ n.toNat) (s : State) : registerView s n = none := by
  unfold registerView
  split
  case h_8 => rfl
  all_goals
    next row => exact absurd reserved (by rw [row]; decide)

theorem exec_readReg (n : Byte) (s : State) : exec (.readReg n) s = execReadReg n s := rfl

/-- Reading a defined register responds with it and does nothing else (R280). -/
theorem exec_readReg_of_defined {n : Byte} {w : Word} {s : State} (defined : registerView s n = some w) :
    exec (.readReg n) s = .next (respond w false s) := by
  rw [exec_readReg, execReadReg, defined]
  exact congrArg Host.Outcome.next (State.answer_eq_respond w s.beginOp)

/-- Reading a reserved register is refused (R280). -/
theorem exec_readReg_of_reserved {n : Byte} (reserved : 7 ≤ n.toNat) (s : State) :
    exec (.readReg n) s = .next (respond 0#32 true { s with status := s.status ||| flagMask .errIllegalOp }) := by
  rw [exec_readReg, execReadReg, registerView_of_reserved reserved]
  exact congrArg Host.Outcome.next (State.refuse_eq_respond .errIllegalOp s)

/-- Settles O55: each defined number reads its register, whose fields are those of the packing; a numeric field holds its
parameter, since the range of R8 fits in the field. -/
theorem readRegisterView : Obligations.ReadRegisterView := by
  intro s
  refine ⟨⟨_, exec_readReg_of_defined rfl, statusRegister_fields s⟩, ⟨_, exec_readReg_of_defined rfl, stateRegister_fields s⟩,
    ⟨_, exec_readReg_of_defined rfl, ?config⟩, ⟨_, exec_readReg_of_defined rfl, ?geometry⟩,
    ⟨_, exec_readReg_of_defined rfl, ?rotation⟩, exec_readReg_of_defined rfl, ⟨_, exec_readReg_of_defined rfl, ?size⟩,
    fun n reserved => ?refused⟩
  case config =>
    obtain ⟨sync, entryOff, updateOff, seqWait, zero, threshold, offCtrl, lut⟩ := configRegister_fields s.cfg
    have holds := toNat_ofNat_of_le (paramThreshold_le s.cfg) 8 (by decide)
    exact ⟨sync, entryOff, updateOff, seqWait, zero, by rw [threshold, holds], offCtrl, lut⟩
  case geometry =>
    obtain ⟨width, height⟩ := geometryRegister_fields s.cfg
    have holdsW := toNat_ofNat_of_le (paramW_le s.cfg) 16 (by decide)
    have holdsH := toNat_ofNat_of_le (paramH_le s.cfg) 16 (by decide)
    exact ⟨by rw [width, holdsW], by rw [height, holdsH]⟩
  case rotation => exact (BitVec.setWidth_eq_append (by decide)).symm
  case size => exact toNat_ofNat_of_le (bufBytes_le s.cfg) 32 (by decide)
  case refused =>
    rw [exec_readReg_of_reserved reserved]
    simp only [flagMask_words]

end Sys2Proof.Machine

/-! ### Proofs about the decoder and the encoder together (30_encoding.md) -/

namespace Sys2Proof

/-! #### Words as concatenations of fields -/

/-- Two concatenations of the same widths are equal exactly part by part. -/
theorem append_eq_append_iff {m n : Nat} {a c : BitVec m} {b d : BitVec n} : a ++ b = c ++ d ↔ a = c ∧ b = d := by
  refine ⟨fun h => ⟨?high, ?low⟩, fun ⟨high, low⟩ => by rw [high, low]⟩
  case high =>
    have parts := congrArg (BitVec.extractLsb' n m) h
    simpa only [extract_append_high _ _ n (Nat.le_refl n), Nat.sub_self, extract_whole] using parts
  case low =>
    have parts := congrArg (BitVec.extractLsb' 0 n) h
    simpa only [extract_append_low _ _ 0 (Nat.le_of_eq (Nat.zero_add n)), extract_whole] using parts

/-- A field of low bits is the field above bit `n` of it and the field below. -/
theorem extract_eq_append {k : Nat} (w : BitVec k) (m n : Nat) :
    w.extractLsb' 0 (m + n) = w.extractLsb' n m ++ w.extractLsb' 0 n :=
  (BitVec.extractLsb'_append_extractLsb'_eq_extractLsb' (Nat.zero_add n).symm).symm

/-- The operand fields of an op word: all but its opcode (R100). -/
def operandsOf (w : OpWord) : BitVec 56 := w.extractLsb' 0 56

theorem operandsOf_append (o : Byte) (fields : BitVec 56) : operandsOf (o ++ fields) = fields :=
  (extract_append_low o fields 0 (Nat.le_refl 56)).trans (extract_whole fields)

/-- An op word is its opcode above its operand fields (R100). -/
theorem opcodeOf_append_operandsOf (w : OpWord) : opcodeOf w ++ operandsOf w = w :=
  (extract_eq_append w 8 56).symm.trans (extract_whole w)

/-! #### The formats: which operand fields each accepts, and as what -/

theorem ifReservedClear_eq_ok {w : OpWord} {clear : Bool} {i j : Instr} :
    ifReservedClear w clear i = .ok j ↔ clear = true ∧ i = j := by
  cases clear <;> simp [ifReservedClear]

/-- A format with one operand in the low bits and zeros above it. -/
theorem lowOperand_eq_ok {w : OpWord} {j : Instr} (m n : Nat) (k : BitVec n → Instr) :
    ifReservedClear w (w.extractLsb' n m == 0#m) (k (w.extractLsb' 0 n)) = .ok j
      ↔ ∃ b, w.extractLsb' 0 (m + n) = 0#m ++ b ∧ k b = j := by
  simp only [ifReservedClear_eq_ok, extract_eq_append, append_eq_append_iff, beq_iff_eq]
  exact ⟨fun ⟨clear, found⟩ => ⟨_, ⟨clear, rfl⟩, found⟩, fun ⟨_, ⟨clear, low⟩, found⟩ => ⟨clear, low ▸ found⟩⟩

section Formats

variable {w : OpWord} {j : Instr}

theorem formatN_eq_ok {i : Instr} : formatN w i = .ok j ↔ operandsOf w = 0#56 ∧ i = j := by
  rw [formatN, ifReservedClear_eq_ok, operandsOf, beq_iff_eq]

theorem formatB_eq_ok {k : Byte → Instr} : formatB w k = .ok j ↔ ∃ b, operandsOf w = 0#48 ++ b ∧ k b = j :=
  lowOperand_eq_ok 48 8 k

theorem formatF_eq_ok {k : Word → Instr} : formatF w k = .ok j ↔ ∃ f, operandsOf w = 0#24 ++ f ∧ k f = j :=
  lowOperand_eq_ok 24 32 k

theorem formatC_eq_ok {k : Half → Instr} : formatC w k = .ok j ↔ ∃ c, operandsOf w = 0#40 ++ c ∧ k c = j :=
  lowOperand_eq_ok 40 16 k

theorem formatM_eq_ok {k : BitVec 12 → Instr} : formatM w k = .ok j ↔ ∃ m, operandsOf w = 0#44 ++ m ∧ k m = j :=
  lowOperand_eq_ok 44 12 k

/-- The fields of formats `P` and `Q`: the reserved byte, two coordinates, the low half (R106, R107). -/
theorem operandsOf_eq_pixel_iff {z : Byte} {x y c : Half} : operandsOf w = z ++ (x ++ (y ++ c)) ↔
    w.extractLsb' 48 8 = z ∧ w.extractLsb' 32 16 = x ∧ w.extractLsb' 16 16 = y ∧ w.extractLsb' 0 16 = c := by
  have parts : operandsOf w = w.extractLsb' 48 8 ++ (w.extractLsb' 32 16 ++ (w.extractLsb' 16 16 ++ w.extractLsb' 0 16)) :=
    (extract_eq_append w 8 48).trans (congrArg _ ((extract_eq_append w 16 32).trans (congrArg _ (extract_eq_append w 16 16))))
  rw [parts, append_eq_append_iff, append_eq_append_iff, append_eq_append_iff]

theorem formatP_eq_ok {k : Half → Half → Half → Instr} :
    formatP w k = .ok j ↔ ∃ x y c, operandsOf w = 0#8 ++ (x ++ (y ++ c)) ∧ k x y c = j := by
  rw [formatP, ifReservedClear_eq_ok, beq_iff_eq]
  constructor
  · exact fun ⟨clear, found⟩ => ⟨_, _, _, operandsOf_eq_pixel_iff.mpr ⟨clear, rfl, rfl, rfl⟩, found⟩
  · rintro ⟨x, y, c, fields, found⟩
    obtain ⟨clear, rfl, rfl, rfl⟩ := operandsOf_eq_pixel_iff.mp fields
    exact ⟨clear, found⟩

theorem formatQ_eq_ok {k : Half → Half → Instr} :
    formatQ w k = .ok j ↔ ∃ x y, operandsOf w = 0#8 ++ (x ++ (y ++ 0#16)) ∧ k x y = j := by
  rw [formatQ, ifReservedClear_eq_ok, Bool.and_eq_true, beq_iff_eq, beq_iff_eq]
  constructor
  · exact fun ⟨⟨clear, low⟩, found⟩ => ⟨_, _, operandsOf_eq_pixel_iff.mpr ⟨clear, rfl, rfl, low⟩, found⟩
  · rintro ⟨x, y, fields, found⟩
    obtain ⟨clear, rfl, rfl, low⟩ := operandsOf_eq_pixel_iff.mp fields
    exact ⟨⟨clear, low⟩, found⟩

/-- The fields of format `I`: reserved bits, the restore bit, the snapshot (R105). -/
theorem operandsOf_eq_init_iff {z : BitVec 23} {r : BitVec 1} {s : Word} : operandsOf w = z ++ (r ++ s) ↔
    w.extractLsb' 33 23 = z ∧ w.extractLsb' 32 1 = r ∧ w.extractLsb' 0 32 = s := by
  have parts : operandsOf w = w.extractLsb' 33 23 ++ (w.extractLsb' 32 1 ++ w.extractLsb' 0 32) :=
    (extract_eq_append w 23 33).trans (congrArg _ (extract_eq_append w 1 32))
  rw [parts, append_eq_append_iff, append_eq_append_iff]

theorem operandsOf_eq_zero_iff : operandsOf w = 0#56 ↔
    w.extractLsb' 33 23 = 0#23 ∧ w.extractLsb' 32 1 = 0#1 ∧ w.extractLsb' 0 32 = 0#32 := by
  have zeros : (0#56 : BitVec 56) = 0#23 ++ (0#1 ++ 0#32) := by decide
  rw [zeros, operandsOf_eq_init_iff]

theorem operandsOf_eq_restore_iff {s : Word} : operandsOf w = 1#24 ++ s ↔
    w.extractLsb' 33 23 = 0#23 ∧ w.extractLsb' 32 1 = 1#1 ∧ w.extractLsb' 0 32 = s := by
  have bits : (1#24 ++ s : BitVec 56) = 0#23 ++ (1#1 ++ s) := by
    have restoreBit : (1#24 : BitVec 24) = 0#23 ++ 1#1 := by decide
    rw [restoreBit, BitVec.append_assoc]
    rfl
  rw [bits, operandsOf_eq_init_iff]

/-- A format `I` word is `INIT` with all fields 0, or `INIT s` with the restore bit and a legal snapshot (R105). -/
theorem formatI_eq_ok : formatI w = .ok j ↔
    (operandsOf w = 0#56 ∧ .init = j)
      ∨ ∃ s, operandsOf w = 1#24 ++ s ∧ (Instr.initS s).wellFormed = true ∧ .initS s = j := by
  simp only [operandsOf_eq_zero_iff, operandsOf_eq_restore_iff, formatI, Instr.wellFormed, Bool.and_eq_true]
  split
  case isTrue plain =>
    have bit : w.extractLsb' 32 1 = 0#1 := beq_iff_eq.mp plain
    simp [bit, ifReservedClear_eq_ok, and_assoc]
  case isFalse restores =>
    have bit : w.extractLsb' 32 1 = 1#1 := by
      generalize w.extractLsb' 32 1 = r at restores
      revert r
      decide
    simp [bit, ifReservedClear_eq_ok, and_assoc]

end Formats

/-! #### Every operation's word -/

/-- The word with a row's opcode and a word's operand fields is that word where its opcode is the row's. -/
theorem opWord_eq_op {w : OpWord} {o : Byte} {fields : BitVec 56} (row : (opcodeOf w).toNat = o.toNat)
    (operands : operandsOf w = fields) : opWord o fields = .op w := by
  rw [opWord, ← BitVec.eq_of_toNat_eq row, ← operands, opcodeOf_append_operandsOf]

/-- Settles O10, by the format of each row: the opcode field of the word selects the row, and the format accepts the operand
fields that the encoder wrote. -/
theorem decodeInvertsEncode : Obligations.DecodeInvertsEncode := by
  intro i wf
  have fields := operandsOf_append
  cases i <;> simp only [encode, opWord, decode, decodeOp, opcodeOf_append]
  case busReset | txnStart | txnEnd | enterFull | enterPartial | update | updatePf | isBusy | waitBusy =>
    exact formatN_eq_ok.mpr ⟨fields _ _, rfl⟩
  case wcmd b | wdata b | wcmdT b | wdataT b | setRotation b | readReg b => exact formatB_eq_ok.mpr ⟨b, fields _ _, rfl⟩
  case busInit f => exact formatF_eq_ok.mpr ⟨f, fields _ _, rfl⟩
  case init => exact formatI_eq_ok.mpr (.inl ⟨fields _ _, rfl⟩)
  case initS s => exact formatI_eq_ok.mpr (.inr ⟨s, fields _ _, wf, rfl⟩)
  case drawPixel x y c => exact formatP_eq_ok.mpr ⟨x, y, c, fields _ _, rfl⟩
  case getPixel x y => exact formatQ_eq_ok.mpr ⟨x, y, fields _ _, rfl⟩
  case fill c => exact formatC_eq_ok.mpr ⟨c, fields _ _, rfl⟩
  case clearStatus m => exact formatM_eq_ok.mpr ⟨m, fields _ _, rfl⟩
  all_goals rfl

/-- An op word that decodes is the encoding of the well-formed instruction it decodes to, row by row of R112. -/
theorem encode_of_decodeOp {w : OpWord} {i : Instr} (legal : decodeOp w = .ok i) :
    encode i = .op w ∧ i.wellFormed = true := by
  unfold decodeOp at legal
  split at legal
  case h_1 row | h_3 row | h_4 row | h_10 row | h_11 row | h_14 row | h_15 row | h_16 row | h_17 row =>
    obtain ⟨fields, rfl⟩ := formatN_eq_ok.mp legal
    exact ⟨opWord_eq_op row fields, rfl⟩
  case h_5 row | h_6 row | h_7 row | h_8 row | h_18 row | h_20 row =>
    obtain ⟨b, fields, rfl⟩ := formatB_eq_ok.mp legal
    exact ⟨opWord_eq_op row fields, rfl⟩
  case h_2 row =>
    obtain ⟨f, fields, rfl⟩ := formatF_eq_ok.mp legal
    exact ⟨opWord_eq_op row fields, rfl⟩
  case h_9 row =>
    obtain ⟨fields, rfl⟩ | ⟨s, fields, wf, rfl⟩ := formatI_eq_ok.mp legal
    · exact ⟨opWord_eq_op row fields, rfl⟩
    · exact ⟨opWord_eq_op row fields, wf⟩
  case h_12 row =>
    obtain ⟨x, y, c, fields, rfl⟩ := formatP_eq_ok.mp legal
    exact ⟨opWord_eq_op row fields, rfl⟩
  case h_13 row =>
    obtain ⟨c, fields, rfl⟩ := formatC_eq_ok.mp legal
    exact ⟨opWord_eq_op row fields, rfl⟩
  case h_19 row =>
    obtain ⟨x, y, fields, rfl⟩ := formatQ_eq_ok.mp legal
    exact ⟨opWord_eq_op row fields, rfl⟩
  case h_21 row =>
    obtain ⟨m, fields, rfl⟩ := formatM_eq_ok.mp legal
    exact ⟨opWord_eq_op row fields, rfl⟩
  case h_22 => cases legal

/-- A wire byte that decodes is the encoding of the command it decodes to (R117). -/
theorem encode_of_decodeWire {b : Byte} {i : Instr} (legal : decodeWire b = .ok i) :
    encode i = .wire b ∧ i.wellFormed = true := by
  unfold decodeWire at legal
  split at legal
  case h_10 => cases legal
  all_goals
    next row =>
      cases legal
      exact ⟨congrArg CodeWord.wire (BitVec.eq_of_toNat_eq row.symm), rfl⟩

/-- Settles O11, layer by layer. -/
theorem legalWordsAreEncodings : Obligations.LegalWordsAreEncodings := by
  intro c i legal
  cases c with
  | op w => exact encode_of_decodeOp legal
  | wire b => exact encode_of_decodeWire legal

/-- Settles O13: the decoder computes each word. The snapshot `0x302` of V8 has no reserved bit set, the snapshot `0x008` of V9 has. -/
theorem sampleWordsDecode : Obligations.SampleWordsDecode := ⟨rfl, rfl, rfl, rfl, rfl, rfl, rfl⟩

end Sys2Proof

/-! ### Proofs about the place of a pixel and about drawing it (43_pixels.md, 20_memory.md) -/

namespace Sys2Proof.Machine

open Sys2Proof

/-! #### Cells in row order -/

/-- A cell of a grid lies within its cells in row order. -/
theorem rowMajor_lt {w h u v : Nat} (hu : u < w) (hv : v < h) : v * w + u < w * h :=
  calc v * w + u < v * w + w := Nat.add_lt_add_left hu _
    _ = (v + 1) * w := (Nat.succ_mul v w).symm
    _ ≤ h * w := Nat.mul_le_mul_right w hv
    _ = w * h := Nat.mul_comm h w

/-- Cells of a grid have different numbers in row order. -/
theorem rowMajor_inj {w u v u' v' : Nat} (hu : u < w) (hu' : u' < w) (same : v * w + u = v' * w + u') : u = u' ∧ v = v' := by
  have positive : 0 < w := Nat.zero_lt_of_lt hu
  have row (u v : Nat) (hu : u < w) : (v * w + u) / w = v := by
    rw [Nat.mul_comm, Nat.mul_add_div positive, Nat.div_eq_of_lt hu, Nat.add_zero]
  have rows : v = v' := by rw [← row u v hu, same, row u' v' hu']
  subst rows
  exact ⟨Nat.add_left_cancel same, rfl⟩

/-! #### Coordinate maps (R262) -/

/-- A mirror keeps an axis to itself. -/
theorem mirrorIf_lt (m : Bool) {size v : Nat} (hv : v < size) : mirrorIf m size v < size := by
  unfold mirrorIf
  split <;> omega

theorem mirrorIf_inj (m : Bool) {size v v' : Nat} (hv : v < size) (hv' : v' < size)
    (same : mirrorIf m size v = mirrorIf m size v') : v = v' := by
  unfold mirrorIf at same
  split at same <;> omega

section Maps

variable {p : Params} {r : BitVec 2} {u v u' v' : Nat}

/-- A mirror map takes the logical rectangle into the physical one. -/
theorem flipMap_lt (m : Bool × Bool) (hu : u < logicalW p r) (hv : v < logicalH p r) :
    (flipMap p r m u v).1 < paramW p ∧ (flipMap p r m u v).2 < paramH p := by
  unfold logicalW at hu
  unfold logicalH at hv
  cases odd : r.getLsbD 0 <;> simp only [odd, flipMap, if_true, Bool.false_eq_true, if_false] at hu hv ⊢
  case false => exact ⟨mirrorIf_lt m.1 hu, mirrorIf_lt m.2 hv⟩
  case true => exact ⟨mirrorIf_lt m.1 hv, mirrorIf_lt m.2 hu⟩

/-- A mirror map takes different cells to different cells. -/
theorem flipMap_inj (m : Bool × Bool) (hu : u < logicalW p r) (hv : v < logicalH p r) (hu' : u' < logicalW p r)
    (hv' : v' < logicalH p r) (same : flipMap p r m u v = flipMap p r m u' v') : u = u' ∧ v = v' := by
  unfold logicalW at hu hu'
  unfold logicalH at hv hv'
  cases odd : r.getLsbD 0 <;>
    simp only [odd, flipMap, if_true, Bool.false_eq_true, if_false, Prod.mk.injEq] at hu hv hu' hv' same <;>
    obtain ⟨sameX, sameY⟩ := same
  case false => exact ⟨mirrorIf_inj m.1 hu hu' sameX, mirrorIf_inj m.2 hv hv' sameY⟩
  case true => exact ⟨mirrorIf_inj m.2 hu hu' sameY, mirrorIf_inj m.1 hv hv' sameX⟩

/-- The logical rectangle has as many cells as the panel. -/
theorem logical_area (p : Params) (r : BitVec 2) : logicalW p r * logicalH p r = paramW p * paramH p := by
  unfold logicalW logicalH
  split
  · exact Nat.mul_comm _ _
  · rfl

/-- What a table that fits is: as many cells as the logical rectangle, each on the panel, none twice. -/
theorem tableFits_iff {cells : List (Nat × Nat)} : tableFits p cells = true ↔
    cells.length = paramW p * paramH p ∧ (∀ c ∈ cells, c.1 < paramW p ∧ c.2 < paramH p) ∧ cells.Nodup := by
  simp [tableFits, and_assoc]

/-- The number of a logical cell is a place in a table that fits. -/
theorem tableIndex_lt {cells : List (Nat × Nat)} (fits : tableFits p cells = true) (hu : u < logicalW p r)
    (hv : v < logicalH p r) : v * logicalW p r + u < cells.length := by
  obtain ⟨length, -, -⟩ := tableFits_iff.mp fits
  rw [length, ← logical_area p r]
  exact rowMajor_lt hu hv

/-- Every rotation map takes the logical rectangle into the physical one. -/
theorem rotMapAt_lt (hu : u < logicalW p r) (hv : v < logicalH p r) :
    (rotMapAt p r u v).1 < paramW p ∧ (rotMapAt p r u v).2 < paramH p := by
  unfold rotMapAt
  split
  case h_1 => exact flipMap_lt _ hu hv
  case h_2 cells _ =>
    split
    case isFalse => exact flipMap_lt _ hu hv
    case isTrue fits =>
      have within := tableIndex_lt fits hu hv
      obtain ⟨-, onPanel, -⟩ := tableFits_iff.mp fits
      rw [List.getD_eq_getElem _ _ within]
      exact onPanel _ (List.getElem_mem within)

/-- Every rotation map takes different cells to different cells. -/
theorem rotMapAt_inj (hu : u < logicalW p r) (hv : v < logicalH p r) (hu' : u' < logicalW p r) (hv' : v' < logicalH p r)
    (same : rotMapAt p r u v = rotMapAt p r u' v') : u = u' ∧ v = v' := by
  unfold rotMapAt at same
  split at same
  case h_1 => exact flipMap_inj _ hu hv hu' hv' same
  case h_2 cells _ =>
    split at same
    case isFalse => exact flipMap_inj _ hu hv hu' hv' same
    case isTrue fits =>
      obtain ⟨-, -, distinct⟩ := tableFits_iff.mp fits
      rw [List.getD_eq_getElem _ _ (tableIndex_lt fits hu hv), List.getD_eq_getElem _ _ (tableIndex_lt fits hu' hv'),
        distinct.getElem_inj_iff] at same
      exact rowMajor_inj hu hu' same

/-- The default maps, class by class (R262). -/
theorem rotMapAt_default (default : p.rotMap = defaultRotMap) (r : BitVec 2) (u v : Nat) : rotMapAt p r u v =
    if r = 0#2 then (u, v)
    else if r = 1#2 then (paramW p - 1 - v, u)
    else if r = 2#2 then (paramW p - 1 - u, paramH p - 1 - v)
    else (v, paramH p - 1 - u) := by
  have classes : ∀ r : BitVec 2, r = 0#2 ∨ r = 1#2 ∨ r = 2#2 ∨ r = 3#2 := by decide
  unfold rotMapAt coordMapOf
  rw [default]
  rcases classes r with rfl | rfl | rfl | rfl <;> rfl

end Maps

/-! #### Operands in range, and the place of their pixel -/

/-- The place of a physical pixel: its byte lies in its row's bytes (20_memory.md R71). -/
theorem byteColumn_lt {p : Params} {px : Nat} (hx : px < paramW p) : px / 8 < rowBytes p := by
  unfold rowBytes ceilDiv
  omega

theorem byteIndex_lt {p : Params} {px py : Nat} (hx : px < paramW p) (hy : py < paramH p) : byteIndex p px py < bufBytes p :=
  rowMajor_lt (byteColumn_lt hx) hy

/-- The leftmost pixel of a byte is its most significant bit (R71). -/
theorem bitMask_eq_twoPow (px : Nat) : bitMask px = BitVec.twoPow 8 (7 - px % 8) := by
  have masks : ∀ k < 8, (0x80#8 : Byte) >>> k = BitVec.twoPow 8 (7 - k) := by decide
  exact masks (px % 8) (Nat.mod_lt px (by decide))

/-- Masks are equal for equal places in the byte only. -/
theorem bitMask_inj {px px' : Nat} (same : bitMask px = bitMask px') : px % 8 = px' % 8 := by
  have masks : ∀ j < 8, ∀ k < 8, (0x80#8 : Byte) >>> j = (0x80#8 : Byte) >>> k → j = k := by decide
  exact masks _ (Nat.mod_lt px (by decide)) _ (Nat.mod_lt px' (by decide)) same

/-- The range check, as inequalities of signed integers (R106, R261). -/
theorem inRange_iff {p : Params} {r : BitVec 2} {x y : Half} : inRange p r x y = true ↔
    0 ≤ x.toInt ∧ x.toInt < logicalW p r ∧ 0 ≤ y.toInt ∧ y.toInt < logicalH p r := by
  simp [inRange, and_assoc]

section Places

variable {p : Params} {r : BitVec 2} {x y x' y' : Half}

/-- The operands that pass the range check name a logical cell. -/
theorem logical_lt (inside : inRange p r x y = true) : x.toInt.toNat < logicalW p r ∧ y.toInt.toNat < logicalH p r := by
  obtain ⟨hx, hxW, hy, hyH⟩ := inRange_iff.mp inside
  omega

theorem physicalOf_lt (inside : inRange p r x y = true) :
    (physicalOf p r x y).1 < paramW p ∧ (physicalOf p r x y).2 < paramH p := by
  obtain ⟨hx, hy⟩ := logical_lt inside
  exact rotMapAt_lt hx hy

theorem pixelIndex_lt (inside : inRange p r x y = true) : pixelIndex p r x y < bufBytes p := by
  obtain ⟨hx, hy⟩ := physicalOf_lt inside
  exact byteIndex_lt hx hy

/-- Two pixels with the same byte and the same mask are the same physical pixel (R71). -/
theorem physicalOf_eq_of_sameBit (inside : inRange p r x y = true) (inside' : inRange p r x' y' = true)
    (sameIndex : pixelIndex p r x y = pixelIndex p r x' y') (sameMask : pixelMask p r x y = pixelMask p r x' y') :
    physicalOf p r x y = physicalOf p r x' y' := by
  have column := byteColumn_lt (physicalOf_lt inside).1
  have column' := byteColumn_lt (physicalOf_lt inside').1
  obtain ⟨sameColumn, sameRow⟩ := rowMajor_inj column column' sameIndex
  have sameBit := bitMask_inj sameMask
  exact Prod.ext (by omega) sameRow

/-- Two operand pairs in range for one physical pixel are equal. -/
theorem operands_eq_of_physicalOf_eq (inside : inRange p r x y = true) (inside' : inRange p r x' y' = true)
    (same : physicalOf p r x y = physicalOf p r x' y') : x = x' ∧ y = y' := by
  obtain ⟨hu, hv⟩ := logical_lt inside
  obtain ⟨hu', hv'⟩ := logical_lt inside'
  obtain ⟨sameX, sameY⟩ := rotMapAt_inj hu hv hu' hv' same
  obtain ⟨hx, -, hy, -⟩ := inRange_iff.mp inside
  obtain ⟨hx', -, hy', -⟩ := inRange_iff.mp inside'
  exact ⟨BitVec.eq_of_toInt_eq (by omega), BitVec.eq_of_toInt_eq (by omega)⟩

end Places

/-- Settles O54: byte and mask determine the physical pixel, and the rotation map is injective on the logical rectangle. -/
theorem pixelsHaveDistinctBits : Obligations.PixelsHaveDistinctBits := by
  intro p r x y x' y' inside inside'
  refine ⟨pixelIndex_lt inside, ⟨_, ?bit, bitMask_eq_twoPow _⟩, fun sameIndex sameMask => ?distinct⟩
  case bit => omega
  case distinct =>
    exact operands_eq_of_physicalOf_eq inside inside' (physicalOf_eq_of_sameBit inside inside' sameIndex sameMask)

/-! #### DRAW_PIXEL -/

/-- What `DRAW_PIXEL` does: the read-modify-write where the range check passes, and a response either way (R264). -/
theorem exec_drawPixel (x y c : Half) (s : State) : exec (.drawPixel x y c) s
    = .next (respond 0#32 false (s.beginOp.doIf (inRange s.cfg s.rotation x y) (State.drawAt x y c))) :=
  congrArg Host.Outcome.next (State.answer_eq_respond 0#32 _)

/-- Inside the range the pixel is drawn. -/
theorem exec_drawPixel_of_inRange {x y : Half} {s : State} (inside : inRange s.cfg s.rotation x y = true) (c : Half) :
    exec (.drawPixel x y c) s = .next (respond 0#32 false (s.drawAt x y c)) := by
  rw [exec_drawPixel, inside]
  rfl

/-- Settles O49: the range check fails, and the response is all there is. -/
theorem outOfRangeDrawIsIgnored : Obligations.OutOfRangeDrawIsIgnored := by
  intro x y c s outside
  have fails : inRange s.cfg s.rotation x y = false := Bool.eq_false_iff.mpr fun inside => outside (inRange_iff.mp inside)
  rw [exec_drawPixel, fails]
  rfl

/-- The bytes after a pixel is drawn: its own is painted, every other one stays (R264). -/
theorem State.readByte_drawAt (x y c : Half) (s : State) (a : Nat) : (s.drawAt x y c).readByte a =
    if a = pixelIndex s.cfg s.rotation x y
      then paint c (pixelMask s.cfg s.rotation x y) (s.readByte (pixelIndex s.cfg s.rotation x y))
      else s.readByte a := by
  unfold State.drawAt
  split
  case isTrue own => rw [own, State.readByte_writeByte_same]
  case isFalse other => rw [State.readByte_writeByte_ne _ _ _ _ other]

theorem paint_eq (c : Half) (m v : Byte) : paint c m v = if c = 0#16 then v &&& ~~~m else v ||| m := by
  by_cases black : c = 0#16 <;> simp [paint, isWhite, black]

/-- Settles O48: the place of the pixel is that of its physical pixel, which lies on the panel; the one byte written there is the
byte painted under the mask. -/
theorem drawPixelWritesOneBit : Obligations.DrawPixelWritesOneBit := by
  intro x y c s inside
  obtain ⟨onPanelX, onPanelY⟩ := physicalOf_lt inside
  refine ⟨⟨onPanelX, onPanelY, rfl, bitMask_eq_twoPow _⟩, fun default => rotMapAt_default default _ _ _,
    _, exec_drawPixel_of_inRange inside c, rfl, ?own, fun a other => ?others⟩
  case own => rw [readByte_respond, State.readByte_drawAt, if_pos rfl, paint_eq]
  case others => rw [readByte_respond, State.readByte_drawAt, if_neg other]

/-! #### Reading a drawn pixel back -/

/-- Painting again with the same mask leaves the last colour only. -/
theorem paint_paint (c d : Half) (m v : Byte) : paint c m (paint d m v) = paint c m v := by
  rw [paint_eq, paint_eq, paint_eq]
  apply BitVec.eq_of_getElem_eq
  intro k hk
  split <;> split <;> cases hm : m[k] <;> simp [hm]

/-- The bit under the mask after painting: clear for black, set for white. -/
theorem paint_and_mask (c : Half) (m v : Byte) : paint c m v &&& m = if c = 0#16 then 0#8 else m := by
  rw [paint_eq]
  apply BitVec.eq_of_getElem_eq
  intro k hk
  split <;> cases hm : m[k] <;> simp [hm]

theorem bitMask_ne_zero (px : Nat) : bitMask px ≠ 0#8 := by
  have masks : ∀ k < 8, (0x80#8 : Byte) >>> k ≠ 0#8 := by decide
  exact masks (px % 8) (Nat.mod_lt px (by decide))

/-- `GET_PIXEL` answers the colour just drawn (R267). -/
theorem pixelAnswer_drawAt {x y : Half} {s : State} (inside : inRange s.cfg s.rotation x y = true) (c : Half) :
    pixelAnswer (s.drawAt x y c) x y = if c = 0#16 then 0#32 else 1#32 := by
  have stillInside : inRange (s.drawAt x y c).cfg (s.drawAt x y c).rotation x y = true := inside
  rw [pixelAnswer_of_inRange stillInside, State.readByte_drawAt]
  have own : pixelIndex (s.drawAt x y c).cfg (s.drawAt x y c).rotation x y = pixelIndex s.cfg s.rotation x y := rfl
  have mask : pixelMask (s.drawAt x y c).cfg (s.drawAt x y c).rotation x y = pixelMask s.cfg s.rotation x y := rfl
  have selects : pixelMask s.cfg s.rotation x y ≠ 0#8 := bitMask_ne_zero _
  rw [own, if_pos rfl, mask, paint_and_mask]
  by_cases black : c = 0#16 <;> simp [black, selects]

/-- Drawing a pixel and reading it: the state after both. -/
theorem execAll_draw_get {x y : Half} {s : State} (inside : inRange s.cfg s.rotation x y = true) (c : Half) :
    execAll [.drawPixel x y c, .getPixel x y] s
      = some (respond (if c = 0#16 then 0#32 else 1#32) false (respond 0#32 false (s.drawAt x y c))) := by
  have answer : pixelAnswer (respond 0#32 false (s.drawAt x y c)) x y = if c = 0#16 then 0#32 else 1#32 :=
    (pixelAnswer_drawAt inside c)
  rw [execAll_cons_of_next (exec_drawPixel_of_inRange inside c), execAll_cons_of_next (exec_getPixel x y _), answer, execAll]

/-- Drawing a pixel twice leaves the bytes of the last drawing. -/
theorem State.readByte_drawAt_drawAt (x y c d : Half) (s : State) (a : Nat) :
    (State.drawAt x y c (s.drawAt x y d)).readByte a = (s.drawAt x y c).readByte a := by
  have place : pixelIndex (s.drawAt x y d).cfg (s.drawAt x y d).rotation x y = pixelIndex s.cfg s.rotation x y
      ∧ pixelMask (s.drawAt x y d).cfg (s.drawAt x y d).rotation x y = pixelMask s.cfg s.rotation x y := ⟨rfl, rfl⟩
  obtain ⟨index, mask⟩ := place
  rw [State.readByte_drawAt, index, mask, State.readByte_drawAt x y c s]
  split
  case isTrue => rw [State.readByte_drawAt, if_pos rfl, paint_paint]
  case isFalse other => rw [State.readByte_drawAt, if_neg other]

/-- Settles O52: both sequences end in drawing `c` and reading, and a second drawing leaves the last colour. -/
theorem drawnPixelReadsBack : Obligations.DrawnPixelReadsBack := by
  intro x y c d s inside
  have again : inRange (respond 0#32 false (s.drawAt x y d)).cfg (respond 0#32 false (s.drawAt x y d)).rotation x y = true :=
    inside
  refine ⟨_, _, (execAll_cons_of_next (exec_drawPixel_of_inRange inside d) _).trans (execAll_draw_get again c),
    execAll_draw_get inside c, rfl, rfl, State.readByte_drawAt_drawAt x y c d s⟩

/-! #### Black on white -/

/-- A black pixel clears its one bit of a white byte. -/
theorem paint_black_on_white {j k : Nat} (hj : j < 8) (hk : k < 8) :
    (paint 0x0000#16 (BitVec.twoPow 8 j) 0xFF#8).getLsbD k = false ↔ k = j := by
  have bits : ∀ j < 8, ∀ k < 8, (paint 0x0000#16 (BitVec.twoPow 8 j) 0xFF#8).getLsbD k = false ↔ k = j := by decide
  exact bits j hj k hk

theorem white_bit {k : Nat} (hk : k < 8) : (0xFF#8 : Byte).getLsbD k = true := by
  have bits : ∀ k < 8, (0xFF#8 : Byte).getLsbD k = true := by decide
  exact bits k hk

/-- Settles O53: after the fill every byte is `0xFF`, and black clears the one bit of the mask in the pixel's byte. -/
theorem blackOnWhiteChangesOneBit : Obligations.BlackOnWhiteChangesOneBit := by
  intro x y s inside i m
  let filled := respond 0#32 false (s.fillBuf (fillByte 0xFFFF#16))
  have stillInside : inRange filled.cfg filled.rotation x y = true := inside
  have white {a : Nat} (below : a < bufBytes s.cfg) : filled.readByte a = 0xFF#8 := by
    rw [readByte_respond, State.readByte_fillBuf _ s a below]
    rfl
  have place : i < bufBytes s.cfg := pixelIndex_lt inside
  have mask : m = BitVec.twoPow 8 (7 - (physicalOf s.cfg s.rotation x y).1 % 8) := bitMask_eq_twoPow _
  refine ⟨_, _, (execAll_cons_of_next (exec_fill _ s) _).trans
    (execAll_cons_of_next (exec_drawPixel_of_inRange stillInside 0x0000#16) []), place, by omega, mask,
    fun a k below hk => ?bits⟩
  have drawn : (respond 0#32 false (filled.drawAt x y 0x0000#16)).readByte a
      = if a = i then paint 0x0000#16 m (filled.readByte i) else filled.readByte a :=
    State.readByte_drawAt x y 0x0000#16 filled a
  rw [drawn, white place, white below, mask]
  by_cases own : a = i
  case pos =>
    rw [if_pos own, paint_black_on_white (by omega) hk]
    exact (and_iff_right own).symm
  case neg => simp [own, white_bit hk]

end Sys2Proof.Machine

/-! ### Proofs about what every step keeps (10_state.md, 40_framer.md) -/

namespace Sys2Proof.Machine

open Sys2Proof

/-! #### Lists of events, read by the framing automaton, the lines and the samples -/

theorem frameRun_append (isOpen : Bool) (es fs : List Event) :
    frameRun isOpen (es ++ fs) = (frameRun isOpen es).bind fun o => frameRun o fs := by
  induction es generalizing isOpen with
  | nil => rfl
  | cons e es ih =>
    rw [List.cons_append, frameRun, frameRun]
    cases frameStep isOpen e with
    | none => rfl
    | some o => exact ih o

/-- The last busy sample on a list of events; with none, the one before it (R48). -/
def lastSampleFrom (before : Bool) (evs : List Event) : Bool := evs.foldl (fun b e => (sampleOf e).getD b) before

theorem linesAfterAll_append (l : Lines) (es fs : List Event) :
    linesAfterAll l (es ++ fs) = linesAfterAll (linesAfterAll l es) fs := List.foldl_append

theorem lastSampleFrom_append (b : Bool) (es fs : List Event) :
    lastSampleFrom b (es ++ fs) = lastSampleFrom (lastSampleFrom b es) fs := List.foldl_append

/-- Shifted bytes keep a transaction open. -/
theorem frameRun_bytes (bs : List WireByte) : frameRun true (bs.map wireEvent) = some true := by
  induction bs with
  | nil => rfl
  | cons b bs ih => cases b <;> exact ih

/-- Shifted bytes leave `DC` high (R142). -/
theorem linesAfterAll_bytes (bs : List WireByte) (l : Lines) :
    linesAfterAll l (bs.map wireEvent) = { l with dc := l.dc || !bs.isEmpty } := by
  induction bs generalizing l with
  | nil => simp [linesAfterAll]
  | cons b bs ih => cases b <;> simpa [linesAfterAll, wireEvent, linesAfter] using ih { l with dc := true }

theorem lastSampleFrom_bytes (bs : List WireByte) (b : Bool) : lastSampleFrom b (bs.map wireEvent) = b := by
  induction bs with
  | nil => rfl
  | cons w bs ih => cases w <;> exact ih

theorem frameRun_busyPollEvents (isOpen : Bool) (k : Nat) : frameRun isOpen (busyPollEvents k) = some isOpen := by
  induction k with
  | zero => rfl
  | succ k ih => exact ih

theorem linesAfterAll_busyPollEvents (l : Lines) (k : Nat) : linesAfterAll l (busyPollEvents k) = l := by
  induction k with
  | zero => rfl
  | succ k ih => exact ih

theorem lastSampleFrom_busyPollEvents (b : Bool) (k : Nat) :
    lastSampleFrom b (busyPollEvents k) = if k = 0 then b else true := by
  induction k generalizing b with
  | zero => rfl
  | succ k ih =>
    have later := ih true
    rw [ite_self] at later
    exact later

/-! #### What every update of an operation respects -/

/-- The events `evs` take the port from the wires of `s` to those of `t`: they obey the framing discipline from one `txn_open` to
the other (R36, R146, R147), drive the line registers (R37) and carry the busy samples (R48). -/
structure WiresRun (s t : State) (evs : List Event) : Prop where
  trace : t.trace = s.trace ++ evs
  frame : frameRun s.txnOpen evs = some t.txnOpen
  lines : linesAfterAll (linesOf s) evs = linesOf t
  sample : lastSampleFrom s.busyLast evs = t.busyLast

theorem WiresRun.append {s t u : State} {es fs : List Event} (first : WiresRun s t es) (second : WiresRun t u fs) :
    WiresRun s u (es ++ fs) where
  trace := by rw [second.trace, first.trace, List.append_assoc]
  frame := by rw [frameRun_append, first.frame]; exact second.frame
  lines := by rw [linesAfterAll_append, first.lines]; exact second.lines
  sample := by rw [lastSampleFrom_append, first.sample]; exact second.sample

/-- What an operation keeps, update by update: parameters, the origin of the trace, wires that follow the events, and each of the
invariants of its own. -/
structure Respects (s t : State) : Prop where
  cfg : t.cfg = s.cfg
  traceBase : t.traceBase = s.traceBase
  wires : ∃ evs, WiresRun s t evs
  idle : linesIdle s = true → linesIdle t = true
  count : countBounded s = true → countBounded t = true
  buf : bufSound s = true → bufSound t = true
  rate : rateNonzero s = true → rateNonzero t = true

theorem Respects.trans {s t u : State} (first : Respects s t) (second : Respects t u) : Respects s u where
  cfg := second.cfg.trans first.cfg
  traceBase := second.traceBase.trans first.traceBase
  wires := by
    obtain ⟨es, run⟩ := first.wires
    obtain ⟨fs, rest⟩ := second.wires
    exact ⟨es ++ fs, run.append rest⟩
  idle := second.idle ∘ first.idle
  count := second.count ∘ first.count
  buf := second.buf ∘ first.buf
  rate := second.rate ∘ first.rate

/-- What the invariants other than those of the wires are about. -/
def State.ranged (s : State) : Params × Nat × BitVec 8 × List Host.Cell × Word := (s.cfg, s.traceBase, s.count, s.buf, s.spiHz)

/-- An update of wires alone. -/
theorem Respects.of_wires {s t : State} (ranged : t.ranged = s.ranged) {evs : List Event} (run : WiresRun s t evs)
    (idle : linesIdle s = true → linesIdle t = true) : Respects s t := by
  simp only [State.ranged, Prod.mk.injEq] at ranged
  obtain ⟨cfg, traceBase, count, buf, rate⟩ := ranged
  refine ⟨cfg, traceBase, ⟨evs, run⟩, idle, ?_, ?_, ?_⟩
  · simp only [countBounded, count, cfg, imp_self]
  · simp only [bufSound, buf, cfg, imp_self]
  · simp only [rateNonzero, rate, imp_self]

/-- The wires as the invariants read them. -/
def State.wires (s : State) : List Event × Bool × Lines × Bool × Bool := (s.trace, s.txnOpen, linesOf s, s.sck, s.busyLast)

/-- The lines between operations, in terms of the wires. -/
theorem linesIdle_iff {s : State} : linesIdle s = true ↔ s.csN = !s.txnOpen ∧ s.dc = true ∧ s.rstN = true ∧ s.sck = false := by
  simp [linesIdle, and_assoc]

/-- An update that leaves the wires alone runs through no event. -/
theorem WiresRun.of_wires_eq {s t : State} (same : t.wires = s.wires) : WiresRun s t [] := by
  simp only [State.wires, Prod.mk.injEq] at same
  obtain ⟨trace, txnOpen, lines, -, sample⟩ := same
  exact ⟨by rw [trace, List.append_nil], congrArg some txnOpen.symm, lines.symm, sample.symm⟩

theorem linesIdle_of_wires_eq {s t : State} (same : t.wires = s.wires) (idle : linesIdle s = true) : linesIdle t = true := by
  simp only [State.wires, linesOf, Prod.mk.injEq, Lines.mk.injEq] at same
  obtain ⟨-, txnOpen, ⟨csN, dc, rstN, -⟩, sck, -⟩ := same
  rwa [linesIdle, csN, txnOpen, dc, rstN, sck]

/-- An update that touches neither wires nor ranges. -/
theorem Respects.silent {s t : State} (wires : t.wires = s.wires) (ranged : t.ranged = s.ranged) : Respects s t :=
  .of_wires ranged (.of_wires_eq wires) (linesIdle_of_wires_eq wires)

theorem Respects.refl (s : State) : Respects s s := .silent rfl rfl

/-! #### The updates that emit events -/

theorem State.poll_respects (s : State) : Respects s s.poll := by
  rw [State.poll_eq]
  exact .of_wires rfl ⟨rfl, rfl, rfl, rfl⟩ id

theorem State.waitBusy_respects (s : State) : Respects s s.waitBusy := by
  rcases Nat.lt_or_ge (busyRun s.panel maxPolls s.drawIx) maxPolls with completes | capped
  · rw [State.waitBusy_completes s completes]
    generalize busyRun s.panel maxPolls s.drawIx = k
    refine .of_wires rfl ⟨rfl, ?frame, ?lines, ?sample⟩ id
    case frame => rw [frameRun_append, frameRun_busyPollEvents]; rfl
    case lines => rw [linesAfterAll_append, linesAfterAll_busyPollEvents]; rfl
    case sample => rw [lastSampleFrom_append]; rfl
  · rw [State.waitBusy_timesOut s (Nat.le_antisymm (busyRun_le _ _ _) capped)]
    exact .of_wires rfl ⟨rfl, frameRun_busyPollEvents _ _, linesAfterAll_busyPollEvents _ _, lastSampleFrom_busyPollEvents _ _⟩ id

theorem State.txnBegin_respects {s : State} (closed : s.txnOpen = false) : Respects s s.txnBegin := by
  have opens : frameRun s.txnOpen [.csOn (s.sampleAt 0)] = some true := by rw [closed]; rfl
  refine .of_wires (by simp [State.ranged]) (evs := [.csOn (s.sampleAt 0)]) ⟨by simp, by simpa using opens, ?lines, ?sample⟩ ?idle
  case lines => simp [linesAfterAll, linesAfter, linesOf]
  case sample => simp [lastSampleFrom, sampleOf]
  case idle => simp [linesIdle_iff]

theorem State.txnEnd_respects {s : State} (isOpen : s.txnOpen = true) : Respects s s.txnEnd := by
  have closes : frameRun s.txnOpen [.csOff] = some false := by rw [isOpen]; rfl
  refine .of_wires rfl (evs := [.csOff]) ⟨rfl, closes, rfl, rfl⟩ ?idle
  case idle => simp [linesIdle_iff]

/-- A run of shifted bytes inside a transaction. -/
theorem State.shiftAll_respects (bs : List WireByte) {s : State} (isOpen : s.txnOpen = true) :
    Respects s (bs.foldl State.shift s) := by
  have keepsOpen : frameRun s.txnOpen (bs.map wireEvent) = some s.txnOpen := by rw [isOpen]; exact frameRun_bytes bs
  rw [State.shiftAll_eq]
  refine .of_wires rfl ⟨rfl, keepsOpen, linesAfterAll_bytes bs _, lastSampleFrom_bytes bs _⟩ ?idle
  case idle =>
    simp only [linesIdle_iff]
    rintro ⟨cs, dc, rst, sck⟩
    exact ⟨cs, by rw [dc]; rfl, rst, by rw [sck]; rfl⟩

/-- A transaction of its own: opened, its bytes, closed. -/
theorem State.txn_respects (bs : List WireByte) {s : State} (closed : s.txnOpen = false) : Respects s (s.txn bs) := by
  have opened : s.txnBegin.txnOpen = true := by simp
  have stillOpen : (bs.foldl State.shift s.txnBegin).txnOpen = true := by rw [State.shiftAll_eq]; exact opened
  exact ((State.txnBegin_respects closed).trans (State.shiftAll_respects bs opened)).trans (State.txnEnd_respects stillOpen)

theorem State.busConfig_respects {f : Word} {s : State} (rate : f ≠ 0#32 ∨ f = s.spiHz) : Respects s (s.busConfig f) := by
  rw [State.busConfig_eq]
  refine ⟨rfl, rfl, ⟨[.cfg f, .idle], rfl, rfl, rfl, rfl⟩, fun _ => rfl, id, id, ?rate⟩
  case rate =>
    intro nonzero
    rcases rate with rate | rate
    · exact bne_iff_ne.mpr rate
    · rw [rate]; exact nonzero

theorem State.resetSeq_respects (s : State) : Respects s s.resetSeq := by
  rw [State.resetSeq_eq]
  have pulse : s.trace ++ [.rst false] ++ [.delay resetMs] ++ [.rst true] ++ [.delay resetMs]
      = s.trace ++ [.rst false, .delay resetMs, .rst true, .delay resetMs] := by simp
  refine .of_wires rfl ⟨pulse, rfl, rfl, rfl⟩ ?idle
  case idle =>
    intro idle
    obtain ⟨cs, dc, -, sck⟩ := linesIdle_iff.mp idle
    exact linesIdle_iff.mpr ⟨cs, dc, rfl, sck⟩

/-! #### The updates of the ranges -/

/-- An update of `count` within its bound (R40). -/
theorem Respects.of_count {s t : State} (wires : t.wires = s.wires) (cfg : t.cfg = s.cfg) (traceBase : t.traceBase = s.traceBase)
    (buf : t.buf = s.buf) (bounded : t.count.toNat ≤ paramThreshold s.cfg) : Respects s t := by
  refine ⟨cfg, traceBase, ⟨[], .of_wires_eq wires⟩, linesIdle_of_wires_eq wires, fun _ => ?count, ?buf, ?rate⟩
  case count => rw [countBounded, cfg]; exact decide_eq_true bounded
  case buf => simp only [bufSound, buf, cfg, imp_self]
  case rate =>
    simp only [State.wires, linesOf, Prod.mk.injEq, Lines.mk.injEq] at wires
    obtain ⟨-, -, ⟨-, -, -, rate⟩, -⟩ := wires
    simp only [rateNonzero, rate, imp_self]

theorem State.restore_respects (snap : Word) (s : State) : Respects s (s.restore snap) := by
  rw [State.restore_eq]
  refine .of_count rfl rfl rfl rfl ?_
  rw [BitVec.toNat_ofNat]
  exact Nat.le_trans (Nat.mod_le _ _) (Nat.min_le_right _ _)

/-- An update of the buffer's bytes within its size (R70). -/
theorem Respects.of_buf {s t : State} (wires : t.wires = s.wires) (cfg : t.cfg = s.cfg) (traceBase : t.traceBase = s.traceBase)
    (count : t.count = s.count) (buf : bufSound s = true → bufSound t = true) : Respects s t := by
  refine ⟨cfg, traceBase, ⟨[], .of_wires_eq wires⟩, linesIdle_of_wires_eq wires, ?count, buf, ?rate⟩
  case count => simp only [countBounded, count, cfg, imp_self]
  case rate =>
    simp only [State.wires, linesOf, Prod.mk.injEq, Lines.mk.injEq] at wires
    obtain ⟨-, -, ⟨-, -, -, rate⟩, -⟩ := wires
    simp only [rateNonzero, rate, imp_self]

theorem bufSound_iff {s : State} : bufSound s = true ↔ memWf s.buf = true ∧ ∀ c ∈ s.buf, c.1 < bufBytes s.cfg := by
  simp [bufSound]

theorem State.drawAt_respects {x y : Half} {s : State} (inside : inRange s.cfg s.rotation x y = true) (c : Half) :
    Respects s (s.drawAt x y c) := by
  refine .of_buf rfl rfl rfl rfl fun sound => bufSound_iff.mpr ?_
  obtain ⟨canonical, within⟩ := bufSound_iff.mp sound
  refine ⟨memWf_memSet _ _ _ canonical, fun cell written => ?_⟩
  rcases mem_memSet _ _ _ _ written with rfl | old
  · exact pixelIndex_lt inside
  · exact within cell old

theorem State.fillBuf_respects (v : Byte) (s : State) : Respects s (s.fillBuf v) := by
  refine .of_buf rfl rfl rfl rfl fun sound => bufSound_iff.mpr ?_
  obtain ⟨canonical, within⟩ := bufSound_iff.mp sound
  exact ⟨memWf_memFill _ _ _ canonical, fun cell written => (mem_memFill _ _ _ _ written).elim id (within cell)⟩

/-! #### Every operation, and every step -/

theorem respects_opClosed : OpClosed Respects where
  refl := .refl
  trans _ _ _ := .trans
  raise _ _ := .silent rfl rfl
  txn bs _ closed _ := State.txn_respects bs closed
  wait := State.waitBusy_respects
  poll := State.poll_respects
  power _ _ := .silent rfl rfl
  mode _ _ := .silent rfl rfl
  done _ _ := .silent rfl rfl
  count _ _ bounded := .of_count rfl rfl rfl rfl bounded
  cycled _ _ := .of_count rfl rfl rfl rfl (Nat.zero_le _)
  beginOp _ := .silent rfl rfl
  answer _ _ := .silent rfl rfl
  refused _ _ := .silent rfl rfl
  clearMicro _ := .silent rfl rfl
  busConfig _ _ := State.busConfig_respects
  resetSeq := State.resetSeq_respects
  restore := State.restore_respects
  txnBegin _ := State.txnBegin_respects
  txnEnd _ := State.txnEnd_respects
  shift w _ := State.shiftAll_respects [w]
  txnOne w _ := State.txn_respects [w]
  rotate _ _ := .silent rfl rfl
  drawAt _ _ c _ inside := State.drawAt_respects inside c
  fillBuf := State.fillBuf_respects
  clearFlags _ _ := .silent rfl rfl

/-- Running a word, from the agenda entry on. -/
theorem runWord_respects {c : CodeWord} {s t : State} (run : runWord c s = .next t) : Respects s t := by
  rcases runWord_next c s t run with ⟨i, -, ran⟩ | ⟨w, e, rfl, -, rfl⟩
  · have received : Respects s (s.receive c) := by cases c <;> exact .silent rfl rfl
    exact received.trans (respects_opClosed.exec i _ t ran)
  · have accepted : Respects s (s.accept w) := .silent rfl rfl
    exact accepted.trans (respects_opClosed.refused _ _)

/-- The state at which a block reset strikes an operation: the trace ends at the cut, and the samples up to there are drawn. -/
def State.atCut (cut : Cut) (s t : State) : State := { s with
  trace := s.trace ++ cutTrace cut (newEvents s t)
  drawIx := s.drawIx + (((newEvents s t).take cut.events).filter drawsSample).length
  freeIx := t.freeIx }

/-- A step respects the invariants update by update, or ends in a block reset with the trace at most longer. -/
theorem step_respects_or_resets {s t : State} (stepped : step s = .next t) :
    Respects s t ∨ ∃ u : State, u.cfg = s.cfg ∧ (∃ evs, u.trace = s.trace ++ evs) ∧ t = u.blockReset := by
  rcases step_cases s t stepped with ⟨-, rfl⟩ | ⟨c, rest, u, -, ran, rfl⟩ | ⟨rest, -, rfl⟩ | ⟨w, cut, rest, u, -, ran, rfl⟩
  · exact .inl (.silent rfl rfl)
  · have taken : Respects s { s with agenda := rest } := .silent rfl rfl
    exact .inl ((taken.trans (runWord_respects ran)).trans (.silent rfl rfl))
  · exact .inr ⟨{ s with agenda := rest }, rfl, ⟨[], (List.append_nil _).symm⟩, rfl⟩
  · exact .inr ⟨State.atCut cut { s with agenda := rest } u, rfl, ⟨cutTrace cut (newEvents s u), rfl⟩, rfl⟩

/-- Settles O59: an operation keeps the parameters and appends its events, and so does a block reset, to the events it leaves. -/
theorem stepKeepsParametersAndTrace : Obligations.StepKeepsParametersAndTrace := by
  intro s t stepped
  rcases step_respects_or_resets stepped with kept | ⟨u, cfg, grown, rfl⟩
  · obtain ⟨evs, run⟩ := kept.wires
    exact ⟨kept.cfg, evs, run.trace⟩
  · exact ⟨cfg, grown⟩

/-! #### The invariants over the events since block reset -/

/-- Events after the last block reset are added to those since it. -/
theorem eventsSinceReset_append {s t : State} {evs : List Event} (traceBase : t.traceBase = s.traceBase)
    (trace : t.trace = s.trace ++ evs) (within : s.traceBase ≤ s.trace.length) :
    t.traceBase ≤ t.trace.length ∧ eventsSinceReset t = eventsSinceReset s ++ evs := by
  rw [eventsSinceReset, traceBase, trace, List.drop_append_of_le_length within, List.length_append]
  exact ⟨Nat.le_add_right_of_le within, rfl⟩

theorem framed_iff {s : State} : framed s = true ↔
    s.traceBase ≤ s.trace.length ∧ frameRun false (eventsSinceReset s) = some s.txnOpen := by
  simp [framed]

theorem linesAgree_iff {s : State} : linesAgree s = true ↔
    s.traceBase ≤ s.trace.length ∧ linesAfterAll (resetLines s.cfg) (eventsSinceReset s) = linesOf s := by
  simp [linesAgree]

theorem busyRecorded_iff {s : State} : busyRecorded s = true ↔
    s.traceBase ≤ s.trace.length ∧ lastSampleFrom true (eventsSinceReset s) = s.busyLast := by
  rw [busyRecorded, Bool.and_eq_true, decide_eq_true_eq, beq_iff_eq, eq_comm (a := s.busyLast)]
  rfl

section Kept

variable {s t : State} (kept : Respects s t)

include kept

theorem Respects.framed (before : framed s = true) : framed t = true := by
  obtain ⟨evs, run⟩ := kept.wires
  obtain ⟨within, framedBefore⟩ := framed_iff.mp before
  obtain ⟨withinAfter, events⟩ := eventsSinceReset_append kept.traceBase run.trace within
  refine framed_iff.mpr ⟨withinAfter, ?_⟩
  rw [events, frameRun_append, framedBefore]
  exact run.frame

theorem Respects.linesAgree (before : linesAgree s = true) : linesAgree t = true := by
  obtain ⟨evs, run⟩ := kept.wires
  obtain ⟨within, agreed⟩ := linesAgree_iff.mp before
  obtain ⟨withinAfter, events⟩ := eventsSinceReset_append kept.traceBase run.trace within
  refine linesAgree_iff.mpr ⟨withinAfter, ?_⟩
  rw [events, linesAfterAll_append, kept.cfg, agreed]
  exact run.lines

theorem Respects.busyRecorded (before : busyRecorded s = true) : busyRecorded t = true := by
  obtain ⟨evs, run⟩ := kept.wires
  obtain ⟨within, recorded⟩ := busyRecorded_iff.mp before
  obtain ⟨withinAfter, events⟩ := eventsSinceReset_append kept.traceBase run.trace within
  refine busyRecorded_iff.mpr ⟨withinAfter, ?_⟩
  rw [events, lastSampleFrom_append, recorded]
  exact run.sample

end Kept

/-! #### Block reset -/

/-- A block reset gives every element its value of R56. -/
theorem State.blockReset_atResetValues (s : State) : atResetValues s.cfg s.blockReset := by
  have buffer (i : Nat) : s.blockReset.readByte i = Config.launchByte s.blockReset.epoch i := State.readByte_of_buf_nil rfl i
  refine ⟨rfl, rfl, rfl, rfl, rfl, rfl, rfl, rfl, rfl, rfl, rfl, rfl, rfl, rfl, rfl, rfl, rfl, buffer, rfl, rfl, rfl, rfl, rfl, rfl,
    rfl, rfl, rfl, rfl⟩

/-- The default rate is not 0: its range begins at 1 and fits in a word (R8, R38). -/
theorem paramSpiHzDefault_ne_zero (p : Params) : paramSpiHzDefault p ≠ 0#32 := by
  have clock : 2 ≤ paramClkHz p := Nat.le_max_left _ _
  have range : 1 ≤ min (paramClkHz p / 2) (2 ^ 32 - 1) := by omega
  have least : 1 ≤ clampTo 1 (min (paramClkHz p / 2) (2 ^ 32 - 1)) p.spiHzDefault := Nat.le_max_left _ _
  have most := clampTo_le range p.spiHzDefault
  intro zero
  have value := congrArg BitVec.toNat zero
  rw [paramSpiHzDefault, toNat_ofNat_of_le (Nat.le_trans most (Nat.min_le_right _ _)) 32 (by decide)] at value
  exact absurd value (by rw [BitVec.toNat_ofNat]; omega)

/-- The invariant of the block holds where every element is at its reset value and nothing has been emitted since. -/
theorem blockInv_of_reset (p : Params) (s : State) (base : s.traceBase = s.trace.length) :
    blockInv { State.resetWith p with
      trace := s.trace, traceBase := s.traceBase, panel := s.panel, drawIx := s.drawIx, levelIx := s.levelIx,
      freeIx := s.freeIx, epoch := s.epoch, agenda := s.agenda } = true := by
  simp [blockInv, framed, linesIdle, linesAgree, countBounded, bufSound, portIdle, busyRecorded, rateNonzero, eventsSinceReset,
    base, State.resetWith, frameRun, linesAfterAll, resetLines, linesOf, memWf, lastSample, paramSpiHzDefault_ne_zero]

/-- Settles O2: block reset leaves the trace empty, its origin at its end, and every element at its reset value. -/
theorem resetMeetsInvariant : Obligations.ResetMeetsInvariant :=
  blockInv_of_reset Config.params State.reset rfl

theorem State.blockReset_blockInv (s : State) : blockInv s.blockReset = true :=
  blockInv_of_reset s.cfg s.blockReset rfl

/-- The parts of the invariant (R36 to R55, R70, R146 to R151). -/
theorem blockInv_iff {s : State} : blockInv s = true ↔
    framed s = true ∧ linesIdle s = true ∧ linesAgree s = true ∧ countBounded s = true ∧ bufSound s = true ∧ portIdle s = true
      ∧ busyRecorded s = true ∧ rateNonzero s = true := by
  simp only [blockInv, Bool.and_eq_true, and_assoc]

/-- Settles O56: an operation's events continue the automaton from one `txn_open` to the next, and a block reset begins anew. -/
theorem stepKeepsFraming : Obligations.StepKeepsFraming := by
  intro s t before stepped
  rcases step_respects_or_resets stepped with kept | ⟨u, -, -, rfl⟩
  · exact kept.framed before
  · exact (blockInv_iff.mp u.blockReset_blockInv).1

/-- Settles O57: an operation's events drive the lines as the state has them, and a block reset begins anew. -/
theorem stepKeepsLineLevels : Obligations.StepKeepsLineLevels := by
  intro s t idle agree stepped
  rcases step_respects_or_resets stepped with kept | ⟨u, -, -, rfl⟩
  · exact ⟨kept.idle idle, kept.linesAgree agree⟩
  · obtain ⟨-, idle, agree, -⟩ := blockInv_iff.mp u.blockReset_blockInv
    exact ⟨idle, agree⟩

/-- Settles O58: the two writers of the buffer, a pixel and a fill, stay inside it, and a block reset empties the list. -/
theorem stepKeepsBufferSound : Obligations.StepKeepsBufferSound := by
  intro s t before stepped
  rcases step_respects_or_resets stepped with kept | ⟨u, -, -, rfl⟩
  · exact kept.buf before
  · obtain ⟨-, -, -, -, buf, -⟩ := blockInv_iff.mp u.blockReset_blockInv
    exact buf

/-! #### The host port (R34, R303) -/

/-- The states that an operation's response leaves. -/
def Responded (t : State) : Prop := ∃ w refused s, t = respond w refused s

theorem State.answer_responded (w : Word) (s : State) : Responded (s.answer w) := ⟨w, false, s, State.answer_eq_respond w s⟩

theorem State.refuse_responded (f : Flag) (s : State) : Responded (s.refuse f) := ⟨_, _, _, State.refuse_eq_respond f s⟩

/-- A refusal check responds where it fails, so the operation responds if its body does. -/
theorem State.unless_responded {bad : Bool} {f : Flag} {body : State → State} (s : State)
    (answers : Responded (body s.beginOp)) : Responded (s.unless bad f body) := by
  cases bad with
  | true => exact State.refuse_responded f s
  | false => exact answers

/-- A register read responds, with the register or with a refusal (R280). -/
theorem execReadReg_responded {n : Byte} {s t : State} (ran : execReadReg n s = .next t) : Responded t := by
  unfold execReadReg at ran
  cases ran
  split
  · exact State.answer_responded _ _
  · exact State.refuse_responded _ s

/-- Every host operation ends in a response. -/
theorem exec_responded {i : Instr} {s t : State} (host : i.isHostOp = true) (ran : exec i s = .next t) : Responded t := by
  cases i
  case wireActivation | wireUpdateControl | wirePixelData | wireWriteLut | wireSetRamX | wireSetRamY | wireSetRamXCounter
      | wireSetRamYCounter | wireNopTerminator => cases host
  case readReg n => exact execReadReg_responded ran
  case busInit | txnStart | txnEnd | wcmd | wdata | wcmdT | wdataT | enterFull | enterPartial | update | updatePf =>
    cases ran
    exact State.unless_responded s (State.answer_responded _ _)
  case busReset | init | initS | drawPixel | fill | isBusy | waitBusy | setRotation | getPixel | clearStatus =>
    cases ran
    exact State.answer_responded _ _

/-- Settles O9: a response clears the micro-state and raises `rsp_valid`. -/
theorem everyOperationResponds : Obligations.EveryOperationResponds := by
  intro i s t host ran
  obtain ⟨w, refused, u, rfl⟩ := exec_responded host ran
  exact ⟨rfl, rfl, rfl, rfl, rfl, rfl, rfl, rfl⟩

/-- Between operations the sequencer holds no micro-state, and the port is idle or shows a response (R32, R34). -/
theorem portIdle_iff {s : State} : portIdle s = true ↔ s.latched = none ∧ s.opReady = !s.rspValid ∧ s.opTimeout = false
    ∧ s.opDone = false ∧ s.forced = false ∧ s.position = 0 ∧ s.loopCtr = 0 := by
  simp [portIdle, and_assoc]

theorem Responded.portIdle {t : State} (responded : Responded t) : portIdle t = true := by
  obtain ⟨w, refused, s, rfl⟩ := responded
  rfl

/-- Taking a response off the port leaves it idle. -/
theorem State.retire_portIdle {s : State} (before : portIdle s = true) : portIdle s.retire = true := by
  obtain ⟨latched, -, rest⟩ := portIdle_iff.mp before
  exact portIdle_iff.mpr ⟨latched, rfl, rest⟩

theorem State.clockOn_portIdle {s : State} (before : portIdle s = true) : portIdle s.clockOn = true :=
  portIdle_iff.mpr (portIdle_iff.mp before)

/-- A command of the wire layer uses no micro-state and leaves the port as it is (log 11). -/
theorem State.wireCommand_portIdle (b : Byte) {s : State} (before : portIdle s = true) : portIdle (s.wireCommand b) = true := by
  obtain ⟨latched, port, timeout, done, forced, position, loopCtr⟩ := portIdle_iff.mp before
  unfold State.wireCommand
  split
  · exact portIdle_iff.mpr ⟨rfl, by simpa using port, rfl, rfl, rfl, rfl, rfl⟩
  · exact portIdle_iff.mpr ⟨latched, port, timeout, done, forced, position, loopCtr⟩

/-- The instructions of the wire layer are its nine commands, each of which shifts its byte. -/
theorem exec_wireCommand {i : Instr} {b : Byte} (wire : wireCommandByte i = some b) (s : State) :
    exec i s = .next (s.wireCommand b) := by
  cases i <;> cases wire <;> rfl

theorem wireCommandByte_of_not_isHostOp {i : Instr} (wire : i.isHostOp = false) : ∃ b, wireCommandByte i = some b := by
  cases i
  case wireActivation | wireUpdateControl | wirePixelData | wireWriteLut | wireSetRamX | wireSetRamY | wireSetRamXCounter
      | wireSetRamYCounter | wireNopTerminator => exact ⟨_, rfl⟩
  all_goals cases wire

/-- An op word decodes to a host operation. -/
theorem isHostOp_of_decode_op {w : OpWord} {i : Instr} (legal : decode (.op w) = .ok i) : i.isHostOp = true := by
  have word : encode i = .op w := (encode_of_decodeOp legal).1
  cases i
  case wireActivation | wireUpdateControl | wirePixelData | wireWriteLut | wireSetRamX | wireSetRamY | wireSetRamXCounter
      | wireSetRamYCounter | wireNopTerminator => cases word
  all_goals rfl

/-- Running a word ends with the port idle or showing a response. -/
theorem runWord_portIdle {c : CodeWord} {s t : State} (before : portIdle s = true) (ran : runWord c s = .next t) :
    portIdle t = true := by
  rcases runWord_next c s t ran with ⟨i, legal, run⟩ | ⟨w, e, rfl, -, rfl⟩
  case inr => exact (State.refuse_responded _ _).portIdle
  case inl =>
    cases host : i.isHostOp with
    | true => exact (exec_responded host run).portIdle
    | false =>
      obtain ⟨b, wire⟩ := wireCommandByte_of_not_isHostOp host
      cases c with
      | op w => exact absurd (isHostOp_of_decode_op legal) (by simp [host])
      | wire b' =>
        rw [exec_wireCommand wire] at run
        cases run
        exact State.wireCommand_portIdle b (State.retire_portIdle before)

theorem step_portIdle {s t : State} (before : portIdle s = true) (stepped : step s = .next t) : portIdle t = true := by
  rcases step_cases s t stepped with ⟨-, rfl⟩ | ⟨c, rest, u, -, ran, rfl⟩ | ⟨rest, -, rfl⟩ | ⟨w, cut, rest, u, -, -, rfl⟩
  · exact State.clockOn_portIdle (State.retire_portIdle before)
  · exact State.clockOn_portIdle (runWord_portIdle (s := { s with agenda := rest }) before ran)
  · rfl
  · rfl

/-- Settles O60: an operation keeps each part of the invariant, and a block reset establishes all of it. -/
theorem stepKeepsBlockInvariant : Obligations.StepKeepsBlockInvariant := by
  intro s t before stepped
  obtain ⟨framing, idle, agree, count, buf, port, recorded, rate⟩ := blockInv_iff.mp before
  have portAfter := step_portIdle port stepped
  rcases step_respects_or_resets stepped with kept | ⟨u, -, -, rfl⟩
  · exact blockInv_iff.mpr ⟨kept.framed framing, kept.idle idle, kept.linesAgree agree, kept.count count, kept.buf buf, portAfter,
      kept.busyRecorded recorded, kept.rate rate⟩
  · exact u.blockReset_blockInv

end Sys2Proof.Machine

/-! ### Proofs about the host port and block reset (10_state.md, 70_reset_and_hazards.md) -/

namespace Sys2Proof.Machine

open Sys2Proof

/-! #### One step, by the entry on the agenda -/

section Entries

variable {s : State} {rest : List Request}

theorem step_of_nil (idle : s.agenda = []) : step s = .next s.retire.clockOn := by
  rw [step, advance, idle]

theorem step_of_present {c : CodeWord} (presented : s.agenda = .present c :: rest) :
    step s = clockedOn (runWord c { s with agenda := rest }) := by
  rw [step, advance, presented]
  rfl

theorem step_of_blockReset (struck : s.agenda = .blockReset :: rest) :
    step s = .next (State.blockReset { s with agenda := rest }) := by
  rw [step, advance, struck]
  rfl

theorem step_of_blockResetDuring {w : OpWord} {cut : Cut} {t : State} (struck : s.agenda = .blockResetDuring w cut :: rest)
    (ran : runWord (.op w) { s with agenda := rest } = .next t) :
    step s = .next (State.abandon cut { s with agenda := rest } t) := by
  rw [step, advance, struck]
  dsimp only [serve]
  rw [ran]

end Entries

theorem runWord_of_decode {c : CodeWord} {i : Instr} (legal : decode c = .ok i) (s : State) :
    runWord c s = exec i (s.receive c) := by
  unfold runWord
  rw [legal]

theorem runWord_of_illegal {w : OpWord} {e : DecodeError} (illegal : decode (.op w) = .error e) (s : State) :
    runWord (.op w) s = .next ((s.accept w).refuse .errIllegalOp) := by
  unfold runWord
  rw [illegal]

/-- Settles O5: with no entry the step takes the response off the port and clocks the synchronizer. -/
theorem idleStepTakesResponse : Obligations.IdleStepTakesResponse := by
  intro s idle
  rw [step_of_nil idle, State.clockOn_eq]
  rfl

/-- Settles O6, by the layer of the word. -/
theorem stepRunsDecodedInstruction : Obligations.StepRunsDecodedInstruction := by
  refine ⟨fun s rest i => ⟨fun w presented legal => ?op, fun b presented legal => ?wire⟩, fun t => ?clocked⟩
  case op => rw [step_of_present presented, runWord_of_decode legal, State.receive, State.accept_eq]
  case wire => rw [step_of_present presented, runWord_of_decode legal]; rfl
  case clocked => rw [clockedOn, State.clockOn_eq]

/-- Settles O7: the refusal of a word that does not decode, and the clock after it. -/
theorem illegalOpWordIsRefused : Obligations.IllegalOpWordIsRefused := by
  intro s rest w e presented illegal
  rw [step_of_present presented, runWord_of_illegal illegal, clockedOn, State.clockOn_eq, State.refuse_eq_respond]
  simp only [flagMask_words]
  rfl

/-! #### No operation halts (R305) -/

theorem exec_next (i : Instr) (s : State) : ∃ t, exec i s = .next t := by
  cases i <;> exact ⟨_, rfl⟩

/-- An op word always runs to a next state. -/
theorem runWord_op_next (w : OpWord) (s : State) : ∃ t, runWord (.op w) s = .next t := by
  cases decoded : decode (.op w) with
  | ok i => rw [runWord_of_decode decoded]; exact exec_next i _
  | error e => exact ⟨_, runWord_of_illegal decoded s⟩

/-- Settles O8, by the entry on the agenda: only a wire byte can fail to decode and stop the step. -/
theorem neverHalts : Obligations.NeverHalts := by
  refine ⟨exec_next, fun s => ?_⟩
  cases entry : s.agenda with
  | nil => exact .inl ⟨_, step_of_nil entry⟩
  | cons r rest =>
    cases r with
    | blockReset => exact .inl ⟨_, step_of_blockReset entry⟩
    | blockResetDuring w cut =>
      obtain ⟨t, ran⟩ := runWord_op_next w { s with agenda := rest }
      exact .inl ⟨_, step_of_blockResetDuring entry ran⟩
    | present c =>
      cases c with
      | op w =>
        obtain ⟨t, ran⟩ := runWord_op_next w { s with agenda := rest }
        exact .inl ⟨t.clockOn, by rw [step_of_present entry, ran, clockedOn]⟩
      | wire b =>
        cases decoded : decode (.wire b) with
        | ok i =>
          obtain ⟨t, ran⟩ := exec_next i (State.receive (.wire b) { s with agenda := rest })
          exact .inl ⟨t.clockOn, by rw [step_of_present entry, runWord_of_decode decoded, ran, clockedOn]⟩
        | error e =>
          have stops : step s = .refused (.notWireCommand b) := by
            rw [step_of_present entry]
            unfold runWord
            rw [decoded]
            rfl
          exact .inr ⟨b, rest, rfl, stops, fun i => by simp [decoded]⟩

/-! #### Block reset, between operations and inside one -/

/-- Settles O3: the step is the block reset itself, which keeps the trace and what is left of the agenda. -/
theorem blockResetStep : Obligations.BlockResetStep := by
  intro s rest struck
  exact ⟨_, step_of_blockReset struck, State.blockReset_atResetValues { s with agenda := rest }, rfl, rfl, rfl, rfl⟩

/-- The bits clocked out of a byte that is cut short (R142, R342). -/
theorem take_msbFirst (x : Byte) (n : Nat) : (msbFirst x).take (min n 7) = firstBits x n := by
  have lengths : ∀ k ≤ 7, (msbFirst x).take k = (List.range k).map fun j => x.getLsbD (7 - j) := by
    intro k hk
    interval_cases k <;> rfl
  exact lengths _ (Nat.min_le_right n 7)

/-- A cut is the events before it and what the panel has seen of the next one. -/
theorem cutTrace_eq (cut : Cut) (evs : List Event) :
    cutTrace cut evs = evs.take cut.events ++ (evs[cut.events]?.toList.flatMap (cutEvent cut.bits)) := by
  rw [cutTrace, List.take_one, List.head?_drop]

/-- Of an event that is no byte the panel has seen nothing. -/
theorem cutEvent_of_not_byte {bits : Nat} {e : Event} (notCmd : ∀ x, e ≠ .cmd x) (notDat : ∀ x, e ≠ .dat x) :
    cutEvent bits e = [] := by
  cases e <;> first | rfl | exact absurd rfl (notCmd _) | exact absurd rfl (notDat _)

/-- Settles O4: the reset strikes the operation that the presented word runs, whose events are those of the step without the
reset, since the clock adds none. -/
theorem blockResetAbandonsOperation : Obligations.BlockResetAbandonsOperation := by
  intro s w cut rest struck
  obtain ⟨t, ran⟩ := runWord_op_next w { s with agenda := rest }
  have completes : step { s with agenda := .present (.op w) :: rest } = .next t.clockOn := by
    rw [step_of_present rfl, ran, clockedOn]
  refine ⟨t.clockOn, _, (newEvents s t.clockOn)[cut.events]?.toList.flatMap (cutEvent cut.bits), completes,
    step_of_blockResetDuring struck ran, State.blockReset_atResetValues (State.atCut cut { s with agenda := rest } t), rfl, rfl, rfl,
    ?trace, fun x next => ?cmd, fun x next => ?dat, fun other => ?other⟩
  case trace =>
    have cutAt : (State.abandon cut { s with agenda := rest } t).trace = s.trace ++ cutTrace cut (newEvents s t.clockOn) := rfl
    rw [cutAt, cutTrace_eq, List.append_assoc]
  case cmd => simp [next, cutEvent, take_msbFirst]
  case dat => simp [next, cutEvent, take_msbFirst]
  case other =>
    cases next : (newEvents s t.clockOn)[cut.events]? with
    | none => rfl
    | some e =>
      rw [next] at other
      have nothing := cutEvent_of_not_byte (bits := cut.bits) (e := e) (fun x same => (other x).1 (congrArg some same))
        (fun x same => (other x).2 (congrArg some same))
      simp [nothing]

end Sys2Proof.Machine

/-! ### Proofs about the framer's operations, refusals and the wire layer (40_framer.md, 60_exceptions.md R301, 30_encoding.md R116) -/

namespace Sys2Proof.Machine

open Sys2Proof

/-! #### The framer's operations where they pass their check -/

/-- What the beginning of a transaction does (R143): the sample, its flag where it reads busy, the selected panel. -/
theorem State.txnBegin_eq (s : State) : s.txnBegin = { s with
    txnOpen := true, csN := false, sync1 := Config.syncStage s.drawIx, sync2 := s.sampleAt 0, busyLast := s.sampleAt 0,
    drawIx := s.drawIx + 1, status := if s.sampleAt 0 then s.status ||| flagMask .hazCmdWhileBusy else s.status,
    trace := s.trace ++ [.csOn (s.sampleAt 0)], position := s.position + 1 } := by
  rw [State.txnBegin, State.sample_eq]
  cases busy : s.sampleAt 0 <;> simp [State.raiseIf, State.raise, State.emit]

/-- Settles O16: both operations pass their check, and their bodies are the framer's primitives. -/
theorem transactionOpensAndCloses : Obligations.TransactionOpensAndCloses := by
  intro s
  refine ⟨fun closed => ?opens, fun isOpen => ?closes⟩
  case opens =>
    rw [exec_txnStart_closed closed, State.answer_eq_respond, State.txnBegin_eq]
    simp only [flagMask_words]
    rfl
  case closes =>
    rw [exec_txnEnd_open isOpen, State.answer_eq_respond]
    rfl

/-- A raw byte write inside a transaction: the byte's event, `DC` high, `SCK` low, `MOSI` open (R142, log 6). -/
theorem exec_byteWrite_eq (w : WireByte) {s : State} (isOpen : s.txnOpen = true) :
    exec (byteWrite w) s = .next (respond 0#32 false { s with
      dc := true, sck := false, mosi := Config.mosiIdle s.freeIx, freeIx := s.freeIx + 1, trace := s.trace ++ [wireEvent w] }) := by
  rw [exec_byteWrite_open w isOpen, State.answer_eq_respond, State.shift_eq]
  rfl

/-- Settles O17: both kinds of byte are shifted alike. -/
theorem byteWritesInsideTransaction : Obligations.ByteWritesInsideTransaction := fun b _ isOpen =>
  ⟨exec_byteWrite_eq (.cmd b) isOpen, exec_byteWrite_eq (.dat b) isOpen⟩

/-- A byte in a transaction of its own (R157, R158). -/
theorem exec_oneByteForm_eq (w : WireByte) {s : State} (closed : s.txnOpen = false) :
    exec (oneByteForm w) s = .next (respond 0#32 false { s with
      csN := true, dc := true, sck := false, mosi := Config.mosiIdle s.freeIx, freeIx := s.freeIx + 1,
      busyLast := s.sampleAt 0, sync2 := s.sampleAt 0, sync1 := Config.syncStage s.drawIx, drawIx := s.drawIx + 1,
      status := if s.sampleAt 0 then s.status ||| 0x200#12 else s.status,
      trace := s.trace ++ txnEvents (s.sampleAt 0) [wireEvent w] }) := by
  have sample : s.beginOp.sampleAt 0 = s.sampleAt 0 := rfl
  rw [exec_oneByteForm_closed w closed, State.answer_eq_respond, State.txn_eq, sample]
  simp [respond, State.beginOp, txnEvents, closed]

/-- Settles O18: both kinds of byte are sent alike. -/
theorem oneByteTransactions : Obligations.OneByteTransactions := fun b _ closed =>
  ⟨exec_oneByteForm_eq (.cmd b) closed, exec_oneByteForm_eq (.dat b) closed⟩

/-! #### What the raw framer operations leave alone (R159) -/

/-- What the raw framer operations do not touch. -/
def State.unwired (s : State) : (BitVec 8 × Bool × Bool × Bool) × BitVec 2 × List Host.Cell × Nat × Word × Params :=
  (panelState s, s.rotation, s.buf, s.epoch, s.spiHz, s.cfg)

/-- A refusal leaves it alone, so an operation does if its body does. -/
theorem State.unless_unwired {bad : Bool} {f : Flag} {body : State → State} {s : State}
    (keeps : (body s.beginOp).unwired = s.unwired) : (s.unless bad f body).unwired = s.unwired := by
  cases bad with
  | true => rw [State.unless_of_bad rfl, State.refuse_eq]; rfl
  | false => rw [State.unless_of_not_bad rfl]; exact keeps

theorem exec_rawFramerOp_unwired {i : Instr} {s t : State} (raw : isRawFramerOp i = true) (ran : exec i s = .next t) :
    t.unwired = s.unwired := by
  cases i
  case txnStart => cases ran; refine State.unless_unwired ?_; rw [State.txnBegin_eq]; rfl
  case txnEnd => cases ran; exact State.unless_unwired rfl
  case wcmd | wdata => cases ran; refine State.unless_unwired ?_; rw [State.shift_eq]; rfl
  case wcmdT | wdataT => cases ran; refine State.unless_unwired ?_; rw [State.txn_eq]; rfl
  all_goals cases raw

/-- Settles O20: what the raw framer operations leave alone holds all that the statement names. -/
theorem rawFramerKeepsPanelState : Obligations.RawFramerKeepsPanelState := by
  intro i s t raw ran
  have kept := exec_rawFramerOp_unwired raw ran
  simp only [State.unwired, Prod.mk.injEq] at kept
  obtain ⟨panel, rotation, buf, epoch, rate, cfg⟩ := kept
  exact ⟨panel, rotation, congrFun (State.readByte_congr s t buf epoch), rate, cfg⟩

/-! #### Refusals (R301, R304) -/

/-- What an operation with the refusal check `bit` does as regards refusal: it does nothing but refuse where the check fails,
and is not refused where it passes. -/
def RefusesBy (bit : Option (BitVec 12)) (s t : State) : Prop :=
  (∀ m, bit = some m → t = respond 0#32 true { s with status := s.status ||| m }) ∧ (bit = none → t.rspRefused = false)

theorem State.answer_refusesBy_none (w : Word) (s u : State) : RefusesBy none s (u.answer w) :=
  ⟨fun _ absent => absurd absent nofun, fun _ => rfl⟩

theorem State.refuse_refusesBy_some (f : Flag) (s : State) : RefusesBy (some (flagMask f)) s (s.refuse f) := by
  refine ⟨fun m bit => ?_, fun absent => absurd absent nofun⟩
  cases bit
  exact State.refuse_eq_respond f s

/-- An operation with a check, whose body ends in a response. -/
theorem State.unless_refusesBy (bad : Bool) (f : Flag) (body : State → State) (word : State → Word) (s : State) :
    RefusesBy (if bad then some (flagMask f) else none) s (s.unless bad f fun t => (body t).answer (word t)) := by
  cases bad with
  | true => exact State.refuse_refusesBy_some f s
  | false => exact State.answer_refusesBy_none _ s _

/-- The numbers below 7 are defined registers (R51). -/
theorem registerView_of_defined {n : Byte} (defined : ¬ 7 ≤ n.toNat) (s : State) : ∃ w, registerView s n = some w := by
  have numbers : n.toNat < 7 := Nat.lt_of_not_le defined
  unfold registerView
  interval_cases n.toNat <;> exact ⟨_, rfl⟩

/-- An operation that needs an open transaction. -/
theorem State.unless_closed_refusesBy (f : Flag) (body : State → State) (word : State → Word) (s : State) :
    RefusesBy (if s.txnOpen then none else some (flagMask f)) s (s.unless (!s.txnOpen) f fun t => (body t).answer (word t)) := by
  have check := State.unless_refusesBy (!s.txnOpen) f body word s
  cases isOpen : s.txnOpen <;> simpa [isOpen] using check

/-- A register read is refused for the reserved numbers (R280). -/
theorem exec_readReg_refusesBy (n : Byte) {s t : State} (ran : exec (.readReg n) s = .next t) :
    RefusesBy (if 7 ≤ n.toNat then some (flagMask .errIllegalOp) else none) s t := by
  split
  case isTrue reserved =>
    rw [exec_readReg_of_reserved reserved, ← State.refuse_eq_respond] at ran
    cases ran
    exact State.refuse_refusesBy_some _ s
  case isFalse defined =>
    obtain ⟨w, value⟩ := registerView_of_defined defined s
    rw [exec_readReg_of_defined value, ← State.answer_eq_respond] at ran
    cases ran
    exact State.answer_refusesBy_none w s s

/-- The check of every host operation, as the model's `unless` has it. -/
theorem exec_refusesBy {i : Instr} {s t : State} (host : i.isHostOp = true) (ran : exec i s = .next t) :
    RefusesBy (refusalBit i s) s t := by
  cases i
  case wireActivation | wireUpdateControl | wirePixelData | wireWriteLut | wireSetRamX | wireSetRamY | wireSetRamXCounter
      | wireSetRamYCounter | wireNopTerminator => cases host
  case readReg n => exact exec_readReg_refusesBy n ran
  case txnStart | wcmdT | wdataT | enterFull | enterPartial | update | updatePf =>
    cases ran
    exact State.unless_refusesBy s.txnOpen .errReentrant _ _ s
  case txnEnd =>
    cases ran
    exact State.unless_closed_refusesBy .errUnmatchedEnd _ _ s
  case wcmd | wdata =>
    cases ran
    exact State.unless_closed_refusesBy .errNoTxn _ _ s
  case busInit f =>
    cases ran
    have check := State.unless_refusesBy (f == 0#32) .errIllegalOp (fun t => (t.busConfig f).resetSeq) (fun _ => 0#32) s
    simpa [refusalBit] using check
  case busReset | init | initS | drawPixel | fill | isBusy | waitBusy | setRotation | getPixel | clearStatus =>
    cases ran
    exact State.answer_refusesBy_none _ s _

/-- Settles O21: a refusal check decides between the refusal and a response that is none. -/
theorem refusedOperationsDoNothingElse : Obligations.RefusedOperationsDoNothingElse := fun _ _ _ => exec_refusesBy

/-! #### The wire layer (R116, R117) -/

/-- Settles O24: each of the nine commands hands its byte to the framer, which shifts it inside a transaction only. -/
theorem wireCommandsShiftTheirByte : Obligations.WireCommandsShiftTheirByte := by
  intro i b s wire
  rw [exec_wireCommand wire, State.wireCommand]
  refine ⟨fun isOpen => ?shifted, fun closed => ?reported⟩
  case shifted => rw [if_pos isOpen, State.shift_eq]; rfl
  case reported => rw [if_neg (by simp [closed])]; rfl

/-! #### The busy line (R47, R180, R229) -/

/-- Settles O44: a poll is a sample, which the chain of the synchronizer passes on, and its event. -/
theorem isBusyAnswersSample : Obligations.IsBusyAnswersSample := by
  refine ⟨fun s => ?answer, fun b s => rfl, fun s => rfl⟩
  have meaning : exec .isBusy s = .next (s.beginOp.poll.answer (0#31 ++ BitVec.ofBool s.beginOp.poll.busyLast)) := rfl
  have sampled : s.beginOp.poll.busyLast = s.sampleAt 0 := by simp [State.sampleAt]
  have word : (0#31 ++ BitVec.ofBool (s.sampleAt 0) : Word) = if s.sampleAt 0 then 1#32 else 0#32 := by
    cases s.sampleAt 0 <;> rfl
  rw [meaning, sampled, word, State.answer_eq_respond, State.poll_eq]
  rfl

end Sys2Proof.Machine

/-! ### Proofs about the view of the lines (40_framer.md R141, R142, R145) -/

namespace Sys2Proof.Machine

open Sys2Proof

/-! #### One byte on the lines -/

/-- The bits of a byte in the order in which they go out (R141). -/
theorem msbFirst_eq_map (x : Byte) : msbFirst x = (List.range 8).map fun k => x.getLsbD (7 - k) := rfl

section Byte

variable (p : Params) {l : Lines} (d : Bool) (half : Nat) (x : Byte)

/-- The panel samples each bit once, while `SCK` is high. -/
theorem sampledBits_bits (selected : l.csN = false) (bits : List Bool) :
    sampledBits (bits.flatMap (bitSegments l d half)) = bits.map fun b => (d, some b) := by
  induction bits with
  | nil => rfl
  | cons b bits ih =>
    simp only [sampledBits] at ih
    simp [sampledBits, bitSegments, selected, ih]

theorem sampledBits_byteSegments (selected : l.csN = false) :
    sampledBits (byteSegments l d half x) = (List.range 8).map fun k => (d, some (x.getLsbD (7 - k))) := by
  have hold (g : Segment) (low : g.sck = false) (segs : List Segment) : sampledBits (segs ++ [g]) = sampledBits segs := by
    simp [sampledBits, low]
  rw [byteSegments, hold _ rfl, sampledBits_bits d half selected, msbFirst_eq_map, List.map_map]
  rfl

/-- `DC` and `CS_N` stay at their levels through the whole byte (R142). -/
theorem byteSegments_levels : ∀ g ∈ byteSegments l d half x, g.dc = d ∧ g.csN = l.csN := by
  simp [byteSegments, bitSegments, msbFirst]

/-- Eight periods of `SCK` and the hold time (R142, R145). -/
theorem totalCycles_byteSegments : totalCycles (byteSegments l d half x) = 16 * half + half := by
  simp only [totalCycles, byteSegments, msbFirst, bitSegments, List.flatMap_cons, List.flatMap_nil, List.cons_append,
    List.nil_append, List.map_cons, List.map_nil, List.sum_cons, List.sum_nil]
  omega

end Byte

/-- Settles O26: a command and a data byte are drawn alike but for the level of `DC`. -/
theorem bytesGoOutMostSignificantFirst : Obligations.BytesGoOutMostSignificantFirst := by
  intro p l x selected
  have levels (d : Bool) : ∀ g ∈ byteSegments l d (halfPeriod p l.hz) x, g.dc = d ∧ g.csN = false := by
    rw [← selected]
    exact byteSegments_levels d _ x
  exact ⟨sampledBits_byteSegments false _ x selected, sampledBits_byteSegments true _ x selected, levels false, levels true,
    totalCycles_byteSegments false _ x, totalCycles_byteSegments true _ x, rfl, rfl⟩

/-! #### The half period (R141) -/

/-- A quotient rounded up is the least number whose product reaches the dividend (R12). -/
theorem ceilDiv_le_iff {a b k : Nat} (positive : 0 < b) : ceilDiv a b ≤ k ↔ a ≤ k * b := by
  rw [ceilDiv, ← Nat.lt_succ_iff, Nat.div_lt_iff_lt_mul positive, Nat.succ_mul]
  omega

/-- Settles O27: the half period is the rounded-up quotient, which is the least that keeps the rate. -/
theorem halfPeriodBoundsRate : Obligations.HalfPeriodBoundsRate := by
  intro p hz nonzero
  have positive : 0 < 2 * hz.toNat := by
    have rate : hz.toNat ≠ 0 := fun zero => nonzero (BitVec.eq_of_toNat_eq zero)
    omega
  have product (k : Nat) : 2 * k * hz.toNat = k * (2 * hz.toNat) := by
    rw [Nat.mul_comm 2 k, Nat.mul_assoc]
  refine ⟨Nat.le_max_left _ _, ?reached, fun k one reached => Nat.max_le.mpr ⟨one, ?least⟩⟩
  case reached =>
    rw [product]
    exact (ceilDiv_le_iff positive).mp (Nat.le_max_right 1 _)
  case least =>
    rw [product] at reached
    exact (ceilDiv_le_iff positive).mpr reached

end Sys2Proof.Machine

/-! ### Proofs about what the engine's operations do, whatever the panel answers (41_sequencer.md, 42_engine.md) -/

namespace Sys2Proof.Machine

open Sys2Proof

/-! #### Scripts: the events with an idle panel, and what a busy panel makes of them -/

/-- A shifted byte. -/
def isByte : Event → Bool
  | .cmd _ | .dat _ => true
  | .cfg _ | .idle | .rst _ | .delay _ | .csOn _ | .csOff | .poll _ | .cutByte _ _ => false

/-- The bytes on a list of events. -/
def bytesOf (evs : List Event) : List Event := evs.filter isByte

/-- The busy polls on a list of events. -/
def pollsIn (evs : List Event) : Nat := evs.countP isPoll

/-- The milliseconds that a list of events waits. -/
def waitsIn (evs : List Event) : Nat := (evs.map delayOf).sum

theorem bytesOf_append (es fs : List Event) : bytesOf (es ++ fs) = bytesOf es ++ bytesOf fs := List.filter_append _ _

theorem samplesIn_append (es fs : List Event) : samplesIn (es ++ fs) = samplesIn es + samplesIn fs := List.countP_append

theorem pollsIn_append (es fs : List Event) : pollsIn (es ++ fs) = pollsIn es + pollsIn fs := List.countP_append

theorem waitsIn_append (es fs : List Event) : waitsIn (es ++ fs) = waitsIn es + waitsIn fs := by simp [waitsIn]

/-- `es` is `script` with each poll stretched to a busy wait: the same bytes in the same order, and at most 400 polls and 2000 ms
for each of its polls (R184). -/
structure Stretches (script es : List Event) : Prop where
  bytes : bytesOf es = bytesOf script
  polls : pollsIn es ≤ 400 * pollsIn script
  waits : waitsIn es ≤ 2000 * pollsIn script

theorem Stretches.append {a b es fs : List Event} (first : Stretches a es) (second : Stretches b fs) :
    Stretches (a ++ b) (es ++ fs) := by
  obtain ⟨bytes, polls, waits⟩ := first
  obtain ⟨bytes', polls', waits'⟩ := second
  refine ⟨?_, ?_, ?_⟩
  · rw [bytesOf_append, bytesOf_append, bytes, bytes']
  · rw [pollsIn_append, pollsIn_append]; omega
  · rw [waitsIn_append, pollsIn_append]; omega

/-! #### The part of the state that runs of transactions and busy waits do not touch -/

/-- The state with all that a transaction or a busy wait touches blanked: the serial lines, the synchronizer and the samples, the
flags, the trace and the micro-state of the run. -/
def State.core (s : State) : State := { s with
  txnOpen := false, csN := true, dc := true, sck := false, mosi := false, status := 0#12, sync1 := false, sync2 := false,
  busyLast := false, position := 0, loopCtr := 0, opTimeout := false, trace := [], drawIx := 0, freeIx := 0 }

/-- The wires of R39 between transactions, with none open. -/
structure AtRest (s : State) : Prop where
  closed : s.txnOpen = false
  csN : s.csN = true
  dc : s.dc = true
  sck : s.sck = false

/-- A part of an engine operation takes the block from `s` to `t`. With an idle panel its events are `script`; whatever the panel
answers they are the script with its polls stretched. It raises the flags `raised`, and besides them only those of a busy panel:
`WAIT_TIMEOUT` and `HAZ_CMD_WHILE_BUSY`. What it leaves of the rest of the state is `core`. -/
structure Performs (script : List Event) (raised : BitVec 12) (core s t : State) : Prop where
  core : t.core = core
  panel : t.panel = s.panel
  closed : s.txnOpen = false → t.txnOpen = false
  rest : AtRest s ∨ bytesOf script ≠ [] → AtRest t
  flags : ∃ m, t.status = s.status ||| raised ||| m ∧ m &&& ~~~0x220#12 = 0#12
  timeout : t.opTimeout = true → s.opTimeout = true ∨ t.status &&& 0x020#12 = 0x020#12
  events : ∃ es, t.trace = s.trace ++ es ∧ Stretches script es
  idle : samplesIdle (samplesIn script) s → t.trace = s.trace ++ script ∧ t.drawIx = s.drawIx + samplesIn script
    ∧ t.status = s.status ||| raised ∧ t.opTimeout = s.opTimeout
    ∧ (s.busyLast = false ∨ 0 < samplesIn script → t.busyLast = false)

/-- Flags stay set when more are raised. -/
theorem or_and_eq_of_and_eq {a b m : BitVec 12} (set : a &&& m = m) : (a ||| b) &&& m = m := by
  have bit (k : Nat) : (a.getLsbD k && m.getLsbD k) = m.getLsbD k := by rw [← BitVec.getLsbD_and, set]
  apply BitVec.eq_of_getLsbD_eq
  intro k _
  rw [BitVec.getLsbD_and, BitVec.getLsbD_or, ← bit k]
  cases a.getLsbD k <;> cases b.getLsbD k <;> simp

theorem or_and_eq_zero {a b m : BitVec 12} (ha : a &&& m = 0#12) (hb : b &&& m = 0#12) : (a ||| b) &&& m = 0#12 := by
  rw [BitVec.and_comm, BitVec.and_or_distrib_left, BitVec.and_comm, ha, BitVec.and_comm, hb]
  rfl

/-- The samples of a later part follow those of the part before. -/
theorem samplesIdle_later {m n : Nat} {s t : State} (idle : samplesIdle (m + n) s) (panel : t.panel = s.panel)
    (drawn : t.drawIx = s.drawIx + m) : samplesIdle n t := by
  intro k hk
  have later := idle (m + k) (Nat.add_lt_add_left hk m)
  rwa [State.sampleAt_def, ← Nat.add_assoc, ← drawn, ← panel, ← State.sampleAt_def] at later

theorem samplesIdle_mono {m n : Nat} {s : State} (idle : samplesIdle n s) (fewer : m ≤ n) : samplesIdle m s :=
  fun k hk => idle k (Nat.lt_of_lt_of_le hk fewer)

theorem Performs.trans {a b : List Event} {q r : BitVec 12} {c d s t u : State} (first : Performs a q c s t)
    (second : Performs b r d t u) : Performs (a ++ b) (q ||| r) d s u where
  core := second.core
  panel := second.panel.trans first.panel
  closed := second.closed ∘ first.closed
  rest := by
    rw [bytesOf_append]
    intro sent
    by_cases later : bytesOf b = []
    · rw [later, List.append_nil] at sent
      exact second.rest (.inl (first.rest sent))
    · exact second.rest (.inr later)
  flags := by
    obtain ⟨m, status, within⟩ := first.flags
    obtain ⟨n, status', within'⟩ := second.flags
    refine ⟨m ||| n, ?_, or_and_eq_zero within within'⟩
    rw [status', status]
    ac_rfl
  timeout := by
    intro timedOut
    rcases second.timeout timedOut with before | flagged
    · refine (first.timeout before).imp_right fun flagged => ?_
      obtain ⟨n, status, -⟩ := second.flags
      rw [status]
      exact or_and_eq_of_and_eq (or_and_eq_of_and_eq flagged)
    · exact .inr flagged
  events := by
    obtain ⟨es, trace, stretched⟩ := first.events
    obtain ⟨fs, trace', stretched'⟩ := second.events
    exact ⟨es ++ fs, by rw [trace', trace, List.append_assoc], stretched.append stretched'⟩
  idle := by
    rw [samplesIn_append]
    intro idle
    obtain ⟨trace, drawn, status, timeout, last⟩ := first.idle (samplesIdle_mono idle (Nat.le_add_right _ _))
    obtain ⟨trace', drawn', status', timeout', last'⟩ := second.idle (samplesIdle_later idle first.panel drawn)
    refine ⟨by rw [trace', trace, List.append_assoc], by rw [drawn', drawn, Nat.add_assoc], ?_, by rw [timeout', timeout], ?_⟩
    · rw [status', status, BitVec.or_assoc]
    · intro sampled
      by_cases later : 0 < samplesIn b
      · exact last' (.inr later)
      · exact last' (.inl (last (sampled.imp_right fun some => by omega)))

/-- What a run touches. -/
def State.wirePart (s : State) :=
  (s.panel, s.txnOpen, s.csN, s.dc, s.sck, s.status, s.opTimeout, s.trace, s.drawIx, s.busyLast)

/-- A script without bytes keeps the lines at rest where its run leaves them alone. -/
theorem atRest_of_no_bytes {script : List Event} {s t : State} (none : bytesOf script = [])
    (same : (t.txnOpen, t.csN, t.dc, t.sck) = (s.txnOpen, s.csN, s.dc, s.sck)) (sent : AtRest s ∨ bytesOf script ≠ []) : AtRest t := by
  obtain ⟨closed, cs, high, low⟩ := sent.resolve_right (absurd none)
  simp only [Prod.mk.injEq] at same
  obtain ⟨txnOpen, csN, dc, sck⟩ := same
  exact ⟨txnOpen.trans closed, csN.trans cs, dc.trans high, sck.trans low⟩

/-- An update of the core alone. -/
theorem Performs.silent {s t : State} (same : t.wirePart = s.wirePart) : Performs [] 0#12 t.core s t := by
  simp only [State.wirePart, Prod.mk.injEq] at same
  obtain ⟨panel, txnOpen, csN, dc, sck, status, timeout, trace, drawIx, busyLast⟩ := same
  exact {
    core := rfl
    panel := panel
    closed := txnOpen.trans
    rest := atRest_of_no_bytes rfl (by rw [txnOpen, csN, dc, sck])
    flags := ⟨0#12, by simp [status], rfl⟩
    timeout := fun timedOut => .inl (timeout ▸ timedOut)
    events := ⟨[], by simp [trace], rfl, Nat.le_refl _, Nat.le_refl _⟩
    idle := fun _ => ⟨by simp [trace], drawIx, by simp [status], timeout, fun last =>
      busyLast.trans (last.resolve_right (Nat.lt_irrefl 0))⟩ }

/-- A raised flag. -/
theorem State.raise_performs (f : Flag) (s : State) : Performs [] (flagMask f) s.core s (s.raise f) where
  core := rfl
  panel := rfl
  closed := id
  rest := atRest_of_no_bytes rfl rfl
  flags := ⟨0#12, by simp, rfl⟩
  timeout := .inl
  events := ⟨[], by simp, rfl, Nat.le_refl _, Nat.le_refl _⟩
  idle _ := ⟨by simp, rfl, rfl, rfl, fun last => last.resolve_right (Nat.lt_irrefl 0)⟩

/-! #### Transactions, polls and busy waits -/

theorem bytesOf_wireEvents (bs : List WireByte) : bytesOf (bs.map wireEvent) = bs.map wireEvent := by
  refine List.filter_eq_self.mpr fun e sent => ?_
  obtain ⟨b, -, rfl⟩ := List.mem_map.mp sent
  cases b <;> rfl

/-- A transaction's bytes are those between its opening and its end. -/
theorem bytesOf_txnEvents (b : Bool) (evs : List Event) : bytesOf (txnEvents b evs) = bytesOf evs := by
  simp [bytesOf, txnEvents, isByte]

/-- Bytes carry no sample, no poll and no delay. -/
theorem bytes_counts (bs : List WireByte) : samplesIn (bs.map wireEvent) = 0 ∧ pollsIn (bs.map wireEvent) = 0
    ∧ waitsIn (bs.map wireEvent) = 0 := by
  induction bs with
  | nil => exact ⟨rfl, rfl, rfl⟩
  | cons b bs ih => cases b <;> simpa [samplesIn, pollsIn, waitsIn, wireEvent, sampleOf, isPoll, delayOf] using ih

theorem txnEvents_counts (b : Bool) (evs : List Event) : samplesIn (txnEvents b evs) = 1 + samplesIn evs
    ∧ pollsIn (txnEvents b evs) = pollsIn evs ∧ waitsIn (txnEvents b evs) = waitsIn evs := by
  simp [txnEvents, samplesIn, pollsIn, waitsIn, sampleOf, isPoll, delayOf, Nat.add_comm]

/-- One transaction: one sample, and the lines at rest if it sent a byte (R143, R144, R196). -/
theorem State.txn_performs (bs : List WireByte) (s : State) :
    Performs (txnEvents false (bs.map wireEvent)) 0#12 s.core s (s.txn bs) := by
  obtain ⟨noSample, noPoll, noWait⟩ := bytes_counts bs
  have counts (b : Bool) := txnEvents_counts b (bs.map wireEvent)
  have sameBytes : bytesOf (txnEvents (s.sampleAt 0) (bs.map wireEvent)) = bytesOf (txnEvents false (bs.map wireEvent)) := by
    rw [bytesOf_txnEvents, bytesOf_txnEvents]
  rw [State.txn_eq]
  refine ⟨rfl, rfl, fun _ => rfl, ?rest, ⟨if s.sampleAt 0 then 0x200#12 else 0#12, ?status, ?within⟩, .inl,
    ⟨txnEvents (s.sampleAt 0) (bs.map wireEvent), rfl, sameBytes, ?polls, ?waits⟩, ?idle⟩
  case rest =>
    rw [bytesOf_txnEvents, bytesOf_wireEvents]
    intro sent
    cases bs with
    | cons b bs => exact ⟨rfl, rfl, by simp, by simp⟩
    | nil =>
      obtain ⟨-, -, high, low⟩ := sent.resolve_right fun absent => absent rfl
      exact ⟨rfl, rfl, by simp [high], by simp [low]⟩
  case status => by_cases busy : s.sampleAt 0 = true <;> simp [busy]
  case within => split <;> rfl
  case polls => rw [(counts _).2.1, noPoll]; exact Nat.zero_le _
  case waits => rw [(counts _).2.2, noWait]; exact Nat.zero_le _
  case idle =>
    rw [(counts _).1, noSample]
    intro idle
    have sample : s.sampleAt 0 = false := idle 0 Nat.one_pos
    simp [sample, txnEvents]

/-- A recorded sample (R182). -/
theorem State.poll_performs (s : State) : Performs [.poll false] 0#12 s.core s s.poll := by
  rw [State.poll_eq]
  refine ⟨rfl, rfl, id, atRest_of_no_bytes rfl rfl, ⟨0#12, by simp, rfl⟩, .inl, ⟨[.poll (s.sampleAt 0)], rfl, rfl, ?polls, Nat.zero_le _⟩,
    fun idle => ?idle⟩
  case polls => exact (by decide : 1 ≤ 400 * 1)
  case idle =>
    have sample : s.sampleAt 0 = false := idle 0 (by decide)
    exact ⟨by rw [sample], rfl, by simp, rfl, fun _ => sample⟩

/-- The polls of a busy panel, each with its delay (R184). -/
theorem busyPollEvents_counts (k : Nat) :
    bytesOf (busyPollEvents k) = [] ∧ pollsIn (busyPollEvents k) = k ∧ waitsIn (busyPollEvents k) = 5 * k := by
  induction k with
  | zero => exact ⟨rfl, rfl, rfl⟩
  | succ k ih =>
    obtain ⟨bytes, polls, waits⟩ := ih
    have first : busyPollEvents (k + 1) = [.poll true, .delay pollMs] ++ busyPollEvents k := rfl
    have one : pollsIn [.poll true, .delay pollMs] = 1 ∧ waitsIn [.poll true, .delay pollMs] = 5 := ⟨rfl, rfl⟩
    refine ⟨bytes, ?_, ?_⟩
    · rw [first, pollsIn_append, polls, one.1, Nat.add_comm]
    · rw [first, waitsIn_append, waits, one.2]; omega

/-- The bounded busy wait (R184): one poll with an idle panel, and at most 400 with their delays. -/
theorem State.waitBusy_performs (s : State) : Performs [.poll false] 0#12 s.core s s.waitBusy := by
  have onePoll : pollsIn [.poll false] = 1 := rfl
  rcases Nat.lt_or_ge (busyRun s.panel maxPolls s.drawIx) maxPolls with completes | capped
  · have idleRun (idle : samplesIdle (samplesIn [.poll false]) s) : busyRun s.panel maxPolls s.drawIx = 0 :=
      busyRun_unique _ _ _ 0 (by decide) (fun j hj => absurd hj (Nat.not_lt_zero j)) (idle 0 (by decide))
    rw [State.waitBusy_completes s completes]
    generalize busyRun s.panel maxPolls s.drawIx = k at completes idleRun
    obtain ⟨bytes, polls, waits⟩ := busyPollEvents_counts k
    have last : waitsIn [.poll false] = 0 := rfl
    have few : k < 400 := completes
    refine ⟨rfl, rfl, id, atRest_of_no_bytes rfl rfl, ⟨0#12, by simp, rfl⟩, .inl, ⟨_, rfl, ?stretched⟩, fun idle => ?idle⟩
    case stretched =>
      refine ⟨?_, ?_, ?_⟩
      · rw [bytesOf_append, bytes]; rfl
      · rw [pollsIn_append, polls, onePoll]; omega
      · rw [waitsIn_append, waits, last, onePoll]; omega
    case idle =>
      rw [idleRun idle]
      exact ⟨rfl, rfl, by simp, rfl, fun _ => rfl⟩
  · have allBusy := Nat.le_antisymm (busyRun_le s.panel maxPolls s.drawIx) capped
    obtain ⟨bytes, polls, waits⟩ := busyPollEvents_counts maxPolls
    rw [State.waitBusy_timesOut s allBusy]
    refine ⟨rfl, rfl, id, atRest_of_no_bytes rfl rfl, ⟨0x020#12, by simp, rfl⟩, ?timeout, ⟨_, rfl, bytes, ?polls, ?waits⟩,
      fun idle => ?idle⟩
    case timeout =>
      intro _
      right
      simp only [flagMask_words]
      rw [BitVec.or_comm]
      exact or_and_eq_of_and_eq rfl
    case polls => rw [polls, onePoll]; decide
    case waits => rw [waits, onePoll]; decide
    case idle =>
      have busy : s.sampleAt 0 = true := busyRun_busy s.panel maxPolls s.drawIx 0 (by rw [allBusy]; decide)
      exact absurd (idle 0 (by decide)) (by simp [busy])

end Sys2Proof.Machine

/-! ### Proofs about the helpers and bodies of the engine (41_sequencer.md R187 to R195, 42_engine.md R224, R226) -/

namespace Sys2Proof.Machine

open Sys2Proof

/-! #### The helpers -/

/-- A run restated. -/
theorem Performs.cast {a a' : List Event} {q q' : BitVec 12} {c c' s t : State} (run : Performs a q c s t) (script : a = a')
    (raised : q = q') (core : c = c') : Performs a' q' c' s t := by
  subst script raised core
  exact run

/-- A part under a policy. -/
theorem Performs.doIf {script : List Event} {raised : BitVec 12} {core s : State} {f : State → State} (c : Bool)
    (run : Performs script raised core s (f s)) :
    Performs (if c then script else []) (if c then raised else 0#12) (if c then core else s.core) s (s.doIf c f) := by
  cases c with
  | true => exact run
  | false => exact .silent rfl

/-- A part under a policy that raises no flag and keeps the core. -/
theorem Performs.doIf_kept {script : List Event} {s : State} {f : State → State} (c : Bool)
    (run : Performs script 0#12 s.core s (f s)) : Performs (if c then script else []) 0#12 s.core s (s.doIf c f) :=
  (run.doIf c).cast rfl (ite_self _) (ite_self _)

section Fields

variable {script : List Event} {raised : BitVec 12} {core s t : State} (run : Performs script raised core s t)

include run

/-- A reading of the state that a run does not touch is that of the core. -/
theorem Performs.field {α : Type} (g : State → α) (blind : ∀ u : State, g u.core = g u) : g t = g core := by
  rw [← run.core, blind]

theorem Performs.cfg : t.cfg = core.cfg := run.field State.cfg fun _ => rfl

theorem Performs.fullMode : t.fullMode = core.fullMode := run.field State.fullMode fun _ => rfl

theorem Performs.initialized : t.initialized = core.initialized := run.field State.initialized fun _ => rfl

theorem Performs.powerOn : t.powerOn = core.powerOn := run.field State.powerOn fun _ => rfl

end Fields

/-- The flag of a condition. -/
theorem State.raiseIf_performs (c : Bool) (f : Flag) (s : State) :
    Performs [] (if c then flagMask f else 0#12) s.core s (s.raiseIf c f) := by
  cases c with
  | true => exact State.raise_performs f s
  | false => exact .silent rfl

theorem State.setAddresses_performs (s : State) : Performs (windowEvents s.cfg) 0#12 s.core s s.setAddresses := by
  have window := State.txn_performs (ramAreaBytes 0#8 (lastXByte s.cfg) 0#16 (lastRow s.cfg)) s
  have pointer := State.txn_performs (ramPointerBytes 0#8 0#16) (s.setRamArea 0#8 (lastXByte s.cfg) 0#16 (lastRow s.cfg))
  have kept : (s.setRamArea 0#8 (lastXByte s.cfg) 0#16 (lastRow s.cfg)).core = s.core := window.core
  rw [kept] at pointer
  exact window.trans pointer

theorem State.writeLut_performs (full : Bool) (s : State) :
    Performs (txnEvents false (lutEvents s.cfg full)) 0#12 s.core s (s.writeLut full) := by
  have sent := State.txn_performs (lutBytes (if full then s.cfg.lutFull else s.cfg.lutPart)) s
  rw [lutBytes, List.map_cons, List.map_map] at sent
  exact sent

/-- The new `power_on` of a power sequence. -/
def State.powered (on : Bool) (s : State) : State := { s with powerOn := on }

/-- What a mode entry marks before its events (R224). -/
def State.entered (f : Bool) (s : State) : State := { s with opDone := true, initialized := true, fullMode := f }

/-- Both power sequences (R190, R191): the flag of a wrong `power_on`, one transaction, the new `power_on`, the wait of the policy. -/
theorem State.powerSeq_performs {wrong wait : Bool} {ctrl : Byte} {on : Bool} {s : State} (policy : wait = s.cfg.powerSeqWait) :
    Performs (txnEvents false [.cmd 0x22#8, .dat ctrl, .cmd 0x20#8] ++ powerWaitEvents s.cfg)
      (if wrong then 0x010#12 else 0#12) (s.core.powered on) s
      ((((s.raiseIf wrong .errPowerState).txn (powerBytes ctrl)).powered on).doIf wait State.waitBusy) := by
  have flagged := State.raiseIf_performs wrong .errPowerState s
  have sent := flagged.trans (State.txn_performs (powerBytes ctrl) (s.raiseIf wrong .errPowerState))
  have core := sent.core.trans flagged.core
  generalize (s.raiseIf wrong .errPowerState).txn (powerBytes ctrl) = t at sent core
  have switched := sent.trans (Performs.silent (t := t.powered on) rfl)
  have waited := Performs.doIf wait (State.waitBusy_performs (t.powered on))
  refine (switched.trans waited).cast ?script ?raised ?core
  case script => simp [policy, powerWaitEvents, powerBytes, wireEvent, cmdUpdateControl, cmdActivation]
  case raised => simp
  case core => rw [ite_self]; exact congrArg (State.powered on) core

theorem State.powerOnSeq_performs (s : State) :
    Performs (powerOnEvents s.cfg) (if s.powerOn then 0x010#12 else 0#12) (s.core.powered true) s s.powerOnSeq :=
  State.powerSeq_performs (by simp [State.txn_eq])

theorem State.powerOffSeq_performs (s : State) :
    Performs (powerOffEvents s.cfg) (if !s.powerOn then 0x010#12 else 0#12) (s.core.powered false) s s.powerOffSeq :=
  State.powerSeq_performs (by simp [State.txn_eq])

/-- `power_off_seq()` under a policy, from a powered panel. -/
theorem State.doIf_powerOffSeq_performs (policy : Bool) {s : State} (on : s.powerOn = true) :
    Performs (if policy then powerOffEvents s.cfg else []) 0#12 (s.core.powered !policy) s (s.doIf policy State.powerOffSeq) := by
  refine (Performs.doIf policy (State.powerOffSeq_performs s)).cast rfl (by simp [on]) ?_
  cases policy with
  | true => rfl
  | false => exact (congrArg (fun b => s.core.powered b) on)

theorem State.writeDisplayData_performs (s : State) : Performs (burstEvents s) 0#12 s.core s s.writeDisplayData := by
  have waited := State.waitBusy_performs s
  have sent := State.txn_performs (burstBytes s.waitBusy.bufImage) s.waitBusy
  have image : s.waitBusy.bufImage = s.bufImage := by
    have sameBuffer : s.waitBusy.core.bufImage = s.core.bufImage := congrArg State.bufImage waited.core
    exact sameBuffer
  rw [waited.core] at sent
  refine (waited.trans sent).cast ?_ rfl rfl
  rw [image]
  simp [burstEvents, burstBytes, State.bufImage, wireEvent, cmdPixelData, Function.comp_def]

/-- The events of one transfer of the buffer, the window first in partial mode (R226). -/
def transferEvents (s : State) : List Event := (if !s.fullMode then windowEvents s.cfg else []) ++ burstEvents s

theorem State.transfer_performs (s : State) : Performs (transferEvents s) 0#12 s.core s s.transfer := by
  have window := Performs.doIf_kept (!s.fullMode) (State.setAddresses_performs s)
  have burst := window.trans (State.writeDisplayData_performs _)
  rw [window.field burstEvents fun _ => rfl, window.core] at burst
  exact burst.cast rfl BitVec.zero_or rfl

theorem State.activate_performs (s : State) : Performs (activationEvents s.fullMode) 0#12 s.core s s.activate := by
  unfold State.activate
  cases s.fullMode with
  | true => exact State.txn_performs (activationBytes ctrlUpdateFull) s
  | false => exact State.txn_performs (activationBytes ctrlUpdatePart) s

/-! #### A mode entry (R224) -/

/-- The events of a mode entry, after its marks. -/
def State.entrySequence (f : Bool) (s : State) : State :=
  let t := ((s.doIf f State.setAddresses).writeLut f).powerOnSeq
  t.doIf t.cfg.powerOffAfterModeEntry State.powerOffSeq

theorem State.enterModeRun_eq (f : Bool) (s : State) : s.enterModeRun f = (s.entered f).entrySequence f := rfl

theorem State.entrySequence_performs (f : Bool) (s : State) :
    Performs (entryEvents s.cfg f) (if s.powerOn then 0x010#12 else 0#12) (s.core.powered !s.cfg.powerOffAfterModeEntry) s
      (s.entrySequence f) := by
  have window := Performs.doIf_kept f (State.setAddresses_performs s)
  have loaded := window.trans (State.writeLut_performs f _)
  rw [window.cfg, window.core] at loaded
  have run := loaded.trans (State.powerOnSeq_performs _)
  rw [loaded.cfg, loaded.powerOn, loaded.core] at run
  unfold State.entrySequence
  generalize ((s.doIf f State.setAddresses).writeLut f).powerOnSeq = t at run
  have ended := run.trans (State.doIf_powerOffSeq_performs t.cfg.powerOffAfterModeEntry run.powerOn)
  rw [run.cfg, run.core] at ended
  dsimp only
  rw [run.cfg]
  refine ended.cast ?script ?raised rfl
  case script => rfl
  case raised => simp only [BitVec.zero_or, BitVec.or_zero]; rfl

/-- The entry sequence of a mode: its events, the flag of a panel already powered, and the state it leaves. -/
theorem State.enterModeRun_performs (f : Bool) (s : State) :
    Performs (entryEvents s.cfg f) (if s.powerOn then 0x010#12 else 0#12)
      ((s.core.entered f).powered !s.cfg.powerOffAfterModeEntry) s (s.enterModeRun f) := by
  rw [State.enterModeRun_eq]
  have marked : Performs [] 0#12 (s.core.entered f) s (s.entered f) := Performs.silent (t := s.entered f) rfl
  exact (marked.trans (State.entrySequence_performs f (s.entered f))).cast rfl BitVec.zero_or rfl

/-! #### An update (R226) -/

/-- The events of `do_update()` after the drop check, with an idle panel. -/
def performEvents (s : State) : List Event :=
  (if !s.powerOn then powerOnEvents s.cfg else []) ++ transferEvents s ++ activationEvents s.fullMode
    ++ (if !s.fullMode then transferEvents s else []) ++ (if s.cfg.syncMode then [.poll false] else [])
    ++ (if s.cfg.powerOffAfterUpdate then powerOffEvents s.cfg else [])

/-- Power-on where the panel is off: its flag is not raised. -/
theorem State.doIf_powerOnSeq_performs (s : State) : Performs (if !s.powerOn then powerOnEvents s.cfg else []) 0#12
    (s.core.powered true) s (s.doIf (!s.powerOn) State.powerOnSeq) := by
  refine (Performs.doIf (!s.powerOn) (State.powerOnSeq_performs s)).cast rfl ?raised ?core
  case raised => cases s.powerOn <;> rfl
  case core =>
    cases on : s.powerOn with
    | true => exact (congrArg (fun b => s.core.powered b) on)
    | false => rfl

/-- The steps of `do_update()` after the drop check: their events, the flag of an uninitialized panel, and the power they leave. -/
theorem State.performUpdate_performs (s : State) :
    Performs (performEvents s) (if !s.initialized then 0x100#12 else 0#12) (s.core.powered !s.cfg.powerOffAfterUpdate) s
      s.performUpdate := by
  have flagged := State.raiseIf_performs (!s.initialized) .errNotInit s
  unfold State.performUpdate
  dsimp only
  generalize s.raiseIf (!s.initialized) .errNotInit = s1 at flagged
  have on := flagged.trans (State.doIf_powerOnSeq_performs s1)
  rw [flagged.cfg, flagged.core] at on
  rw [flagged.powerOn] at on ⊢
  generalize s1.doIf _ State.powerOnSeq = p at on
  have sent := on.trans (State.transfer_performs p)
  rw [on.field transferEvents fun _ => rfl, on.core] at sent
  have activated := sent.trans (State.activate_performs p.transfer)
  rw [sent.fullMode, sent.core] at activated
  generalize p.transfer.activate = s2 at activated
  have again := activated.trans (Performs.doIf_kept (!s2.fullMode) (State.transfer_performs s2))
  rw [activated.field transferEvents fun _ => rfl, activated.core] at again
  rw [activated.fullMode] at again ⊢
  generalize s2.doIf _ State.transfer = s3 at again
  have waited := again.trans (Performs.doIf_kept s3.cfg.syncMode (State.waitBusy_performs s3))
  rw [again.core] at waited
  rw [again.cfg] at waited ⊢
  generalize s3.doIf _ State.waitBusy = s4 at waited
  have ended := waited.trans (State.doIf_powerOffSeq_performs s4.cfg.powerOffAfterUpdate waited.powerOn)
  rw [waited.cfg, waited.core] at ended
  rw [waited.cfg]
  refine ended.cast rfl ?raised rfl
  case raised => simp only [BitVec.or_zero, flagMask_words]

/-! #### The drop check (R226) -/

/-- Whether an update finds the panel busy in asynchronous mode. -/
def dropped (s : State) : Bool := !s.cfg.syncMode && s.sampleAt 0

/-- What `do_update()` sends with an idle panel where it is performed; where it is dropped, its one poll. -/
def doUpdateEvents (s : State) : List Event := if dropped s then [.poll false] else updateEvents s

/-- The flag of a dropped update, or of one on an uninitialized panel. -/
def doUpdateFlags (s : State) : BitVec 12 := if dropped s then 0x040#12 else if !s.initialized then 0x100#12 else 0#12

/-- What an update leaves of the core: a performed one leaves the power that its policy says. -/
def doUpdateCore (s : State) : State := if dropped s then s.core else s.core.powered !s.cfg.powerOffAfterUpdate

/-- The events of an update are the poll of the drop check and those after it. -/
theorem updateEvents_eq (s : State) :
    updateEvents s = (if s.cfg.syncMode then [] else [.poll false]) ++ performEvents s := by
  unfold updateEvents performEvents transferEvents
  cases s.powerOn <;> cases s.fullMode <;> simp

/-- A dropped update is the poll and the flag. -/
theorem State.dropped_performs (s : State) :
    Performs [.poll false] 0x040#12 s.core s (s.poll.raise .updateDropped) := by
  have polled := State.poll_performs s
  refine (polled.trans (State.raise_performs .updateDropped s.poll)).cast rfl ?_ polled.core
  simp only [flagMask_words, BitVec.zero_or]

/-- An update after an idle drop check. -/
theorem State.polledUpdate_performs (s : State) :
    Performs ([.poll false] ++ performEvents s) (if !s.initialized then 0x100#12 else 0#12)
      (s.core.powered !s.cfg.powerOffAfterUpdate) s s.poll.performUpdate := by
  have polled := State.poll_performs s
  generalize s.poll = t at polled
  have run := polled.trans (State.performUpdate_performs t)
  rw [polled.field performEvents fun _ => rfl, polled.initialized, polled.core, polled.cfg] at run
  exact run.cast rfl BitVec.zero_or rfl

/-- Where an update is performed: it is synchronous, or its drop check reads idle. -/
theorem State.doUpdate_of_not_dropped {s : State} (performed : dropped s = false) :
    s.doUpdate = (if s.cfg.syncMode then s.performUpdate else s.poll.performUpdate, true) := by
  cases sync : s.cfg.syncMode with
  | true => rw [State.doUpdate_sync s sync, if_pos rfl]
  | false =>
    have idle : s.sampleAt 0 = false := by simpa [dropped, sync] using performed
    rw [State.doUpdate_async s sync idle, if_neg Bool.false_ne_true]

/-- A performed update. -/
theorem State.performed_performs (s : State) : Performs (updateEvents s) (if !s.initialized then 0x100#12 else 0#12)
    (s.core.powered !s.cfg.powerOffAfterUpdate) s (if s.cfg.syncMode then s.performUpdate else s.poll.performUpdate) := by
  rw [updateEvents_eq]
  cases s.cfg.syncMode with
  | true =>
    rw [if_pos rfl, if_pos rfl]
    exact State.performUpdate_performs s
  | false =>
    rw [if_neg Bool.false_ne_true, if_neg Bool.false_ne_true]
    exact State.polledUpdate_performs s

/-- What `do_update()` does, and whether it is performed. -/
theorem State.doUpdate_performs (s : State) :
    Performs (doUpdateEvents s) (doUpdateFlags s) (doUpdateCore s) s s.doUpdate.1 ∧ s.doUpdate.2 = !dropped s := by
  unfold doUpdateEvents doUpdateFlags doUpdateCore
  cases check : dropped s with
  | true =>
    obtain ⟨sync, busy⟩ : s.cfg.syncMode = false ∧ s.sampleAt 0 = true := by simpa [dropped] using check
    rw [State.doUpdate_dropped s sync busy]
    exact ⟨State.dropped_performs s, rfl⟩
  | false =>
    rw [State.doUpdate_of_not_dropped check]
    exact ⟨State.performed_performs s, rfl⟩

end Sys2Proof.Machine

/-! ### Proofs about INIT, WAIT_BUSY, the mode entries and UPDATE (42_engine.md R221 to R230) -/

namespace Sys2Proof.Machine

open Sys2Proof

/-! #### INIT and the snapshot -/

/-- The configuration block's bytes as events, in list order (R186). -/
theorem configEvents_eq (p : Params) : (p.configBlock.flatMap configEntryBytes).map wireEvent = configEvents p := by
  simp [configEvents, configEntryBytes, List.map_flatMap, wireEvent, Function.comp_def]

/-- Settles O28: the bus configuration, the panel hard reset, and the configuration block as one transaction. -/
theorem initSendsConfiguration : Obligations.InitSendsConfiguration := by
  intro s
  have meaning : exec .init s = .next (s.beginOp.initBus.answer 0#32) := rfl
  have sample : ((s.beginOp.busConfig s.beginOp.spiHz).resetSeq).sampleAt 0 = s.sampleAt 0 := by
    simp [State.sampleAt_def]
  refine ⟨_, meaning, ?frame, ?trace, ?panel, ?status, ?wires⟩
  all_goals
    rw [State.initBus, State.txConfig, State.txn_eq, sample, configEvents_eq, State.resetSeq_eq, State.busConfig_eq]
  case frame => exact ⟨rfl, rfl, rfl, fun _ => rfl, rfl, rfl, rfl, rfl⟩
  case trace => simp [State.answer_eq, State.beginOp, hardResetEvents, resetMs, txnEvents]
  case panel => rfl
  case status =>
    simp only [flagMask_words]
    rw [State.answer_eq]
    cases s.sampleAt 0 <;> simp [State.beginOp] <;> rfl
  case wires => exact ⟨rfl, rfl, rfl, rfl, rfl, rfl, rfl, rfl, rfl, rfl⟩

/-- Settles O30: the register's reserved bits are clear, and its count is not above the threshold, so the restore does not clamp
it. -/
theorem snapshotRoundTrip : Obligations.SnapshotRoundTrip := by
  intro s s' sameCfg bounded
  obtain ⟨-, mode, power, low, count, high⟩ := stateRegister_fields s
  have within : s.count.toNat ≤ paramThreshold s'.cfg := sameCfg ▸ of_decide_eq_true bounded
  refine ⟨?legal, ?restored⟩
  case legal => simp [Instr.wellFormed, snapshotLowReservedClear, snapshotHighReservedClear, low, high]
  case restored =>
    obtain ⟨t, u, -, ran, uninitialized, restored⟩ := initRestoresSnapshot (stateRegister s) s'
    refine ⟨t, ran, ?_⟩
    rw [panelState, uninitialized, restored]
    rw [mode, power, count, Nat.min_eq_left within, BitVec.ofNat_toNat, BitVec.setWidth_eq]

/-! #### The busy wait -/

theorem busyPolls_eq (k : Nat) : busyPolls k = busyPollEvents k := by
  induction k with
  | zero => rfl
  | succ k ih => rw [busyPolls, List.replicate_succ, List.flatten_cons, ← busyPolls, ih]; rfl

/-- The response words of the operations that report (R303). -/
theorem doneWord_words : doneWord false false false = 0#32 ∧ doneWord true false false = 1#32 ∧ doneWord false true false = 2#32
    ∧ doneWord true true false = 3#32 ∧ doneWord true false true = 5#32 := by decide

/-- The word of a wait that ends, and of one that hits its cap (R230). -/
theorem exec_waitBusy (s : State) : exec .waitBusy s
    = .next ({ s.beginOp.waitBusy with opDone := !s.beginOp.waitBusy.opTimeout }).answerDone := rfl

/-- Settles O45: `busyRun` counts the busy polls before the first idle one; the wait completes there or hits its cap. -/
theorem waitBusyIsBounded : Obligations.WaitBusyIsBounded := by
  intro s
  rw [exec_waitBusy, busyPolls_eq]
  refine ⟨fun k few busy idle => ?completes, fun busy => ?capped⟩
  case completes =>
    have run : busyRun s.beginOp.panel maxPolls s.beginOp.drawIx = k := busyRun_unique _ _ _ k few busy idle
    rw [State.waitBusy_completes s.beginOp (by rw [run]; exact few), run, busyPolls_eq]
    obtain ⟨-, done, -⟩ := doneWord_words
    have word : doneWord (!s.beginOp.opTimeout) s.beginOp.opTimeout s.beginOp.forced = 1#32 := done
    simp only [State.answerDone, State.answer_eq_respond, word]
    rfl
  case capped =>
    have run : busyRun s.beginOp.panel maxPolls s.beginOp.drawIx = maxPolls := busyRun_all _ _ _ busy
    rw [State.waitBusy_timesOut s.beginOp run]
    obtain ⟨-, -, timedOut, -⟩ := doneWord_words
    have word : doneWord (!true) true s.beginOp.forced = 2#32 := timedOut
    simp only [State.answerDone, State.answer_eq_respond, flagMask_words, word]
    rfl

/-! #### A mode entry in its mode, and a dropped update -/

/-- Settles O31: the state is not marked before the test of R224, so nothing is left to undo. -/
theorem modeEntryIsIdempotent : Obligations.ModeEntryIsIdempotent := fun _ _ closed mode initialized =>
  exec_modeEntry_of_entered ⟨mode, initialized, closed⟩

/-- `UPDATE` outside a transaction. -/
theorem exec_update {s : State} (closed : s.txnOpen = false) : exec .update s = .next s.beginOp.updateOnce.answerDone :=
  congrArg Host.Outcome.next (State.unless_of_not_bad closed _ _ s)

/-- Settles O37: the drop check's poll reads busy, and the flag is all that follows. -/
theorem busyAsynchronousUpdateIsDropped : Obligations.BusyAsynchronousUpdateIsDropped := by
  intro s closed async busy
  have begun : s.beginOp.doUpdate = (s.beginOp.poll.raise .updateDropped, false) :=
    State.doUpdate_dropped s.beginOp async busy
  have sample : s.beginOp.sampleAt 0 = true := busy
  rw [exec_update closed, State.updateOnce, begun, State.poll_eq, sample]
  have word : doneWord false s.beginOp.opTimeout s.beginOp.forced = 0#32 := doneWord_words.1
  simp only [State.answerDone, State.answer_eq_respond, State.raise, flagMask_words, word]
  rfl

end Sys2Proof.Machine

/-! ### Facts about the events of the engine's operations: commands, samples and polls (41_sequencer.md R187 to R195, 42_engine.md) -/

namespace Sys2Proof.Machine

open Sys2Proof

/-- The command bytes of a list of events. -/
def commandsIn (es : List Event) : List Byte := es.filterMap fun
  | .cmd x => some x
  | .dat _ | .cfg _ | .idle | .rst _ | .delay _ | .csOn _ | .csOff | .poll _ | .cutByte _ _ => none

theorem commandsIn_append (es fs : List Event) : commandsIn (es ++ fs) = commandsIn es ++ commandsIn fs :=
  List.filterMap_append

/-- A command byte is on the list of commands where its event is on the list of events. -/
theorem mem_commandsIn {x : Byte} {es : List Event} : x ∈ commandsIn es ↔ .cmd x ∈ es := by
  simp only [commandsIn, List.mem_filterMap]
  constructor
  · rintro ⟨e, sent, command⟩
    cases e <;> simp_all
  · exact fun sent => ⟨_, sent, rfl⟩

/-- Commands are bytes. -/
theorem mem_bytesOf_cmd {x : Byte} {es : List Event} : .cmd x ∈ bytesOf es ↔ .cmd x ∈ es := by
  simp [bytesOf, isByte]

/-- Whatever the panel answers, the commands sent are those of the script. -/
theorem Stretches.cmd_mem {script es : List Event} (run : Stretches script es) (x : Byte) : .cmd x ∈ es ↔ .cmd x ∈ script := by
  rw [← mem_bytesOf_cmd, run.bytes, mem_bytesOf_cmd]

/-- Data bytes hold no command. -/
theorem commandsIn_map_dat (bs : List Byte) : commandsIn (bs.map .dat) = [] := by
  simp [commandsIn]

/-- Data bytes hold no sample and no poll. -/
theorem counts_map_dat (bs : List Byte) : samplesIn (bs.map .dat) = 0 ∧ pollsIn (bs.map .dat) = 0 := by
  simp [samplesIn, pollsIn, sampleOf, isPoll, List.countP_map, Function.comp_def]

/-- A transaction's commands, samples and polls. -/
theorem txnEvents_profile (b : Bool) (es : List Event) : commandsIn (txnEvents b es) = commandsIn es
    ∧ samplesIn (txnEvents b es) = 1 + samplesIn es ∧ pollsIn (txnEvents b es) = pollsIn es := by
  obtain ⟨samples, polls, -⟩ := txnEvents_counts b es
  exact ⟨by simp [commandsIn, txnEvents], samples, polls⟩

theorem windowEvents_profile (p : Params) : commandsIn (windowEvents p) = [0x44#8, 0x45#8, 0x4E#8, 0x4F#8]
    ∧ samplesIn (windowEvents p) = 2 ∧ pollsIn (windowEvents p) = 0 := ⟨rfl, rfl, rfl⟩

theorem lutTxn_profile (p : Params) (f : Bool) : commandsIn (txnEvents false (lutEvents p f)) = [0x32#8]
    ∧ samplesIn (txnEvents false (lutEvents p f)) = 1 ∧ pollsIn (txnEvents false (lutEvents p f)) = 0 := by
  obtain ⟨commands, samples, polls⟩ := txnEvents_profile false (lutEvents p f)
  rw [commands, samples, polls]
  have split : lutEvents p f = [.cmd 0x32#8] ++ (if f then p.lutFull else p.lutPart).toList.map .dat := rfl
  obtain ⟨noSample, noPoll⟩ := counts_map_dat (if f then p.lutFull else p.lutPart).toList
  rw [split, commandsIn_append, samplesIn_append, pollsIn_append, commandsIn_map_dat, noSample, noPoll]
  exact ⟨rfl, rfl, rfl⟩

theorem activationEvents_profile (f : Bool) : commandsIn (activationEvents f) = [0x22#8, 0x20#8, 0xFF#8]
    ∧ samplesIn (activationEvents f) = 1 ∧ pollsIn (activationEvents f) = 0 := ⟨rfl, rfl, rfl⟩

theorem burstEvents_profile (s : State) : commandsIn (burstEvents s) = [0x24#8]
    ∧ samplesIn (burstEvents s) = 2 ∧ pollsIn (burstEvents s) = 1 := by
  have split : burstEvents s = [.poll false] ++ txnEvents false
      ([.cmd 0x24#8] ++ ((List.range (bufBytes s.cfg)).map s.readByte).map .dat) := by
    simp [burstEvents, Function.comp_def]
  obtain ⟨noSample, noPoll⟩ := counts_map_dat ((List.range (bufBytes s.cfg)).map s.readByte)
  obtain ⟨commands, samples, polls⟩ := txnEvents_profile false
    ([.cmd 0x24#8] ++ ((List.range (bufBytes s.cfg)).map s.readByte).map .dat)
  rw [split, commandsIn_append, samplesIn_append, pollsIn_append, commands, samples, polls,
    commandsIn_append, samplesIn_append, pollsIn_append, commandsIn_map_dat, noSample, noPoll]
  exact ⟨rfl, rfl, rfl⟩

theorem powerOnEvents_profile (p : Params) : commandsIn (powerOnEvents p) = [0x22#8, 0x20#8]
    ∧ samplesIn (powerOnEvents p) = (if p.powerSeqWait then 2 else 1)
    ∧ pollsIn (powerOnEvents p) = (if p.powerSeqWait then 1 else 0) := by
  unfold powerOnEvents powerWaitEvents
  cases p.powerSeqWait <;> exact ⟨rfl, rfl, rfl⟩

theorem powerOffEvents_profile (p : Params) : commandsIn (powerOffEvents p) = [0x22#8, 0x20#8]
    ∧ samplesIn (powerOffEvents p) = (if p.powerSeqWait then 2 else 1)
    ∧ pollsIn (powerOffEvents p) = (if p.powerSeqWait then 1 else 0) := by
  unfold powerOffEvents powerWaitEvents
  cases p.powerSeqWait <;> exact ⟨rfl, rfl, rfl⟩

/-- Power-off under a policy. -/
theorem powerOffPolicy_profile (c : Bool) (p : Params) :
    commandsIn (if c then powerOffEvents p else []) = (if c then [0x22#8, 0x20#8] else [])
    ∧ samplesIn (if c then powerOffEvents p else []) ≤ 2 ∧ pollsIn (if c then powerOffEvents p else []) ≤ 1 := by
  cases c with
  | false => exact ⟨rfl, Nat.zero_le _, Nat.zero_le _⟩
  | true =>
    obtain ⟨commands, samples, polls⟩ := powerOffEvents_profile p
    rw [if_pos rfl, if_pos rfl, commands, samples, polls]
    exact ⟨rfl, by split <;> decide, by split <;> decide⟩

/-- Power-on under a policy. -/
theorem powerOnPolicy_profile (c : Bool) (p : Params) :
    commandsIn (if c then powerOnEvents p else []) = (if c then [0x22#8, 0x20#8] else [])
    ∧ samplesIn (if c then powerOnEvents p else []) ≤ 2 ∧ pollsIn (if c then powerOnEvents p else []) ≤ 1 := by
  cases c with
  | false => exact ⟨rfl, Nat.zero_le _, Nat.zero_le _⟩
  | true =>
    obtain ⟨commands, samples, polls⟩ := powerOnEvents_profile p
    rw [if_pos rfl, if_pos rfl, commands, samples, polls]
    exact ⟨rfl, by split <;> decide, by split <;> decide⟩

/-- A poll under a policy. -/
theorem pollPolicy_profile (c : Bool) : commandsIn (if c then [.poll false] else []) = []
    ∧ samplesIn (if c then [.poll false] else []) = (if c then 1 else 0)
    ∧ pollsIn (if c then [.poll false] else []) = (if c then 1 else 0) := by
  cases c <;> exact ⟨rfl, rfl, rfl⟩

theorem transferEvents_profile (s : State) :
    commandsIn (transferEvents s) = (if s.fullMode then [] else [0x44#8, 0x45#8, 0x4E#8, 0x4F#8]) ++ [0x24#8]
    ∧ samplesIn (transferEvents s) = (if s.fullMode then 2 else 4) ∧ pollsIn (transferEvents s) = 1 := by
  obtain ⟨commands, samples, polls⟩ := burstEvents_profile s
  unfold transferEvents
  rw [commandsIn_append, samplesIn_append, pollsIn_append, commands, samples, polls]
  cases s.fullMode <;> exact ⟨rfl, rfl, rfl⟩

/-- The second transfer of an update, in partial mode only. -/
theorem transferAgain_profile (s : State) :
    commandsIn (if !s.fullMode then transferEvents s else []) = (if s.fullMode then [] else [0x44#8, 0x45#8, 0x4E#8, 0x4F#8, 0x24#8])
    ∧ samplesIn (if !s.fullMode then transferEvents s else []) = (if s.fullMode then 0 else 4)
    ∧ pollsIn (if !s.fullMode then transferEvents s else []) = (if s.fullMode then 0 else 1) := by
  obtain ⟨commands, samples, polls⟩ := transferEvents_profile s
  cases mode : s.fullMode with
  | true => exact ⟨rfl, rfl, rfl⟩
  | false =>
    rw [mode] at commands samples
    exact ⟨commands, samples, polls⟩

/-- A mode entry: its commands, at most seven samples and at most two polls. -/
theorem entryEvents_profile (p : Params) (f : Bool) :
    commandsIn (entryEvents p f) = (if f then [0x44#8, 0x45#8, 0x4E#8, 0x4F#8] else []) ++ [0x32#8] ++ [0x22#8, 0x20#8]
      ++ (if p.powerOffAfterModeEntry then [0x22#8, 0x20#8] else [])
    ∧ 0 < samplesIn (entryEvents p f) ∧ samplesIn (entryEvents p f) ≤ (if f then 7 else 5) ∧ pollsIn (entryEvents p f) ≤ 2 := by
  obtain ⟨lut, lutSamples, lutPolls⟩ := lutTxn_profile p f
  obtain ⟨on, onSamples, onPolls⟩ := powerOnPolicy_profile true p
  obtain ⟨off, offSamples, offPolls⟩ := powerOffPolicy_profile p.powerOffAfterModeEntry p
  obtain ⟨window, windowSamples, windowPolls⟩ := windowEvents_profile p
  rw [if_pos rfl] at on onSamples onPolls
  unfold entryEvents
  simp only [commandsIn_append, samplesIn_append, pollsIn_append, lut, lutSamples, lutPolls, on, off]
  cases f with
  | true =>
    simp only [if_true, window, windowSamples, windowPolls]
    exact ⟨trivial, by omega, by omega, by omega⟩
  | false =>
    simp only [Bool.false_eq_true, if_false, show samplesIn [] = 0 from rfl, show pollsIn [] = 0 from rfl]
    exact ⟨rfl, by omega, by omega, by omega⟩

/-- An update: its commands, at most 14 samples and at most 5 polls, and fewer in full mode. -/
theorem updateEvents_profile (s : State) :
    commandsIn (updateEvents s) = (if s.powerOn then [] else [0x22#8, 0x20#8])
      ++ (if s.fullMode then [] else [0x44#8, 0x45#8, 0x4E#8, 0x4F#8]) ++ [0x24#8] ++ [0x22#8, 0x20#8, 0xFF#8]
      ++ (if s.fullMode then [] else [0x44#8, 0x45#8, 0x4E#8, 0x4F#8, 0x24#8])
      ++ (if s.cfg.powerOffAfterUpdate then [0x22#8, 0x20#8] else [])
    ∧ 0 < samplesIn (updateEvents s) ∧ samplesIn (updateEvents s) ≤ (if s.fullMode then 8 else 14)
    ∧ pollsIn (updateEvents s) ≤ (if s.fullMode then 4 else 5) := by
  obtain ⟨on, onSamples, onPolls⟩ := powerOnPolicy_profile (!s.powerOn) s.cfg
  obtain ⟨off, offSamples, offPolls⟩ := powerOffPolicy_profile s.cfg.powerOffAfterUpdate s.cfg
  obtain ⟨first, firstSamples, firstPolls⟩ := transferEvents_profile s
  obtain ⟨again, againSamples, againPolls⟩ := transferAgain_profile s
  obtain ⟨start, startSamples, startPolls⟩ := activationEvents_profile s.fullMode
  obtain ⟨check, checkSamples, checkPolls⟩ := pollPolicy_profile (!s.cfg.syncMode)
  obtain ⟨wait, waitSamples, waitPolls⟩ := pollPolicy_profile s.cfg.syncMode
  have checked : (if s.cfg.syncMode then [] else [.poll false]) = (if !s.cfg.syncMode then [Event.poll false] else []) := by
    cases s.cfg.syncMode <;> rfl
  rw [updateEvents_eq, checked]
  unfold performEvents
  simp only [commandsIn_append, samplesIn_append, pollsIn_append, first, firstSamples, firstPolls, again, againSamples, againPolls,
    start, startSamples, startPolls, check, checkSamples, checkPolls, wait, waitSamples, waitPolls, on, off]
  refine ⟨?_, ?_⟩
  · cases s.powerOn <;> cases s.fullMode <;> simp
  · generalize samplesIn (if !s.powerOn then powerOnEvents s.cfg else []) = a at *
    generalize pollsIn (if !s.powerOn then powerOnEvents s.cfg else []) = b at *
    generalize samplesIn (if s.cfg.powerOffAfterUpdate then powerOffEvents s.cfg else []) = c at *
    generalize pollsIn (if s.cfg.powerOffAfterUpdate then powerOffEvents s.cfg else []) = d at *
    cases s.cfg.syncMode <;> cases s.fullMode <;>
      simp only [Bool.not_true, Bool.not_false, Bool.false_eq_true, if_true, if_false] <;> omega

/-- An update loads no table. -/
theorem updateEvents_loads_no_lut (s : State) : .cmd 0x32#8 ∉ updateEvents s := by
  rw [← mem_commandsIn, (updateEvents_profile s).1]
  cases s.powerOn <;> cases s.fullMode <;> cases s.cfg.powerOffAfterUpdate <;> decide

end Sys2Proof.Machine

/-! ### Proofs about the mode entries and UPDATE (42_engine.md R223 to R227, R235) -/

namespace Sys2Proof.Machine

open Sys2Proof

/-! #### What a run leaves, read off its core -/

/-- What no operation of the engine other than a pixel write touches, as one value. -/
def State.frame (s : State) := (s.cfg, s.spiHz, s.rotation, s.buf, s.epoch, s.agenda, s.traceBase, s.rstN)

/-- A script with a command sends a byte. -/
theorem bytesOf_ne_nil_of_cmd {x : Byte} {es : List Event} (command : x ∈ commandsIn es) : bytesOf es ≠ [] :=
  List.ne_nil_of_mem (mem_bytesOf_cmd.mpr (mem_commandsIn.mp command))

section Answered

variable {script : List Event} {raised : BitVec 12} {core s u : State} (run : Performs script raised core s.beginOp u)

include run

/-- After a run that keeps the frame, and the response, only the engine's part of the state has changed. -/
theorem Performs.engineFrame_answerDone (frame : core.frame = s.frame) : engineFrame s u.answerDone := by
  have same : u.answerDone.frame = s.frame := (run.field State.frame fun _ => rfl).trans frame
  simp only [State.frame, Prod.mk.injEq] at same
  obtain ⟨cfg, rate, rotation, buf, epoch, agenda, base, -⟩ := same
  refine ⟨cfg, rate, rotation, fun a => ?_, epoch, run.panel, agenda, base⟩
  rw [State.readByte, State.readByte, buf, epoch]

/-- PanelState is the core's. -/
theorem Performs.panelState_answerDone : panelState u.answerDone = panelState core := run.field panelState fun _ => rfl

/-- A run that sends a byte leaves the lines at rest. -/
theorem Performs.linesAtRest_answerDone (frame : core.frame = s.frame) (sent : bytesOf script ≠ []) :
    linesAtRest s u.answerDone := by
  have same : u.answerDone.frame = s.frame := (run.field State.frame fun _ => rfl).trans frame
  simp only [State.frame, Prod.mk.injEq] at same
  obtain ⟨-, -, -, -, -, -, -, reset⟩ := same
  obtain ⟨-, cs, dc, sck⟩ := run.rest (.inr sent)
  exact ⟨cs, dc, sck, reset⟩

/-- The flags of a run: those that it raises itself, and those of a busy panel. -/
theorem Performs.flagsWithin_answerDone {m : BitVec 12} (own : raised &&& ~~~m = 0#12) (busy : 0x220#12 &&& ~~~m = 0#12) :
    flagsWithin m s u.answerDone := by
  obtain ⟨n, status, within⟩ := run.flags
  have masked : n &&& ~~~m = 0#12 := by
    calc n &&& ~~~m = n &&& 0x220#12 &&& ~~~m := by
          have kept : n &&& 0x220#12 = n := by
            have split : n = n &&& 0x220#12 ||| n &&& ~~~0x220#12 := by
              rw [← BitVec.and_or_distrib_left]
              exact BitVec.and_allOnes.symm
            rw [within, BitVec.or_zero] at split
            exact split.symm
          rw [kept]
      _ = n &&& (0x220#12 &&& ~~~m) := BitVec.and_assoc _ _ _
      _ = 0#12 := by rw [busy, BitVec.and_zero]
  have answered : u.answerDone.status = s.status ||| (raised ||| n) := by
    rw [← BitVec.or_assoc]
    exact status
  unfold flagsWithin
  rw [answered, BitVec.and_comm, BitVec.and_or_distrib_left, BitVec.and_comm, BitVec.and_comm _ (raised ||| n),
    or_and_eq_zero own masked, BitVec.or_zero]

/-- The response of a run that is done and not forced: with or without a timeout, and its flag (R303). -/
theorem Performs.rspWord_answerDone (done : core.opDone = true) (forced : core.forced = false) :
    u.answerDone.rspWord = 1#32 ∨ (u.answerDone.rspWord = 3#32 ∧ u.answerDone.status &&& 0x020#12 = 0x020#12) := by
  have isDone : u.opDone = true := (run.field State.opDone fun _ => rfl).trans done
  have notForced : u.forced = false := (run.field State.forced fun _ => rfl).trans forced
  have word : u.answerDone.rspWord = doneWord u.opDone u.opTimeout u.forced := rfl
  obtain ⟨-, complete, -, timedOut, -⟩ := doneWord_words
  rw [word, isDone, notForced]
  cases late : u.opTimeout with
  | false => exact .inl complete
  | true => exact .inr ⟨timedOut, (run.timeout late).resolve_left Bool.false_ne_true⟩

/-- The response of a run of an idle panel. -/
theorem Performs.idle_answerDone (idle : samplesIdle (samplesIn script) s) (done : core.opDone = true)
    (forced : core.forced = false) (sampled : 0 < samplesIn script) :
    u.answerDone.trace = s.trace ++ script ∧ u.answerDone.drawIx = s.drawIx + samplesIn script
      ∧ u.answerDone.status = s.status ||| raised ∧ u.answerDone.busyLast = false ∧ u.answerDone.rspWord = 1#32 := by
  obtain ⟨trace, drawn, status, timeout, last⟩ := run.idle idle
  have isDone : u.opDone = true := (run.field State.opDone fun _ => rfl).trans done
  have notForced : u.forced = false := (run.field State.forced fun _ => rfl).trans forced
  have inTime : u.opTimeout = false := timeout
  have word : u.answerDone.rspWord = doneWord u.opDone u.opTimeout u.forced := rfl
  obtain ⟨-, complete, -⟩ := doneWord_words
  rw [isDone, inTime, notForced] at word
  exact ⟨trace, drawn, status, last (.inr sampled), word.trans complete⟩

end Answered

/-! #### Mode entries -/

/-- The entry sequence of a mode, run by its operation. -/
theorem exec_modeEntry_of_not_entered {f : Bool} {s : State} (closed : s.txnOpen = false)
    (notEntered : s.fullMode = f → s.initialized = false) :
    exec (if f then .enterFull else .enterPartial) s = .next (s.beginOp.enterModeRun f).answerDone := by
  have runs : ¬(s.beginOp.fullMode == f && s.beginOp.initialized) = true := by
    rw [Bool.and_eq_true, beq_iff_eq]
    rintro ⟨mode, initialized⟩
    exact absurd initialized (Bool.eq_false_iff.mp (notEntered mode))
  rw [exec_modeEntry f closed, State.enterMode, if_neg runs]

theorem entryEvents_send (p : Params) (f : Bool) : bytesOf (entryEvents p f) ≠ [] := by
  refine bytesOf_ne_nil_of_cmd (x := 0x32#8) ?_
  rw [(entryEvents_profile p f).1]
  simp

/-- Settles O33: with an idle panel the entry's events are its script, which has at most seven samples. -/
theorem modeEntryEvents : Obligations.ModeEntryEvents := by
  intro f s closed notEntered idle
  have run := State.enterModeRun_performs f s.beginOp
  have meaning := exec_modeEntry_of_not_entered closed notEntered
  generalize s.beginOp.enterModeRun f = u at run meaning
  obtain ⟨-, sampled, few, -⟩ := entryEvents_profile s.cfg f
  have within : samplesIn (entryEvents s.cfg f) ≤ 7 := by cases f <;> simp at few <;> omega
  obtain ⟨trace, drawn, status, last, word⟩ := run.idle_answerDone (samplesIdle_mono idle within) rfl rfl sampled
  refine ⟨_, meaning, run.engineFrame_answerDone rfl,
    run.linesAtRest_answerDone rfl (entryEvents_send s.cfg f), trace, run.panelState_answerDone, status.trans ?_,
    last, drawn, run.closed closed, rfl, word, rfl⟩
  cases on : s.powerOn <;> simp [on, State.beginOp]

/-- Settles O34: whatever the panel answers, the entry runs to its end. -/
theorem modeEntryCompletesWhateverThePanel : Obligations.ModeEntryCompletesWhateverThePanel := by
  intro f s closed notEntered
  have run := State.enterModeRun_performs f s.beginOp
  have meaning := exec_modeEntry_of_not_entered closed notEntered
  generalize s.beginOp.enterModeRun f = u at run meaning
  have own : (if s.beginOp.powerOn then 0x010#12 else 0#12) &&& ~~~0x230#12 = 0#12 := by split <;> rfl
  exact ⟨_, meaning, run.engineFrame_answerDone rfl,
    run.linesAtRest_answerDone rfl (entryEvents_send s.cfg f), run.flagsWithin_answerDone own rfl,
    run.panelState_answerDone, run.closed closed, run.rspWord_answerDone rfl rfl, rfl⟩

/-! #### Updates -/

/-- The report of an update. -/
def State.reported (performed : Bool) (s : State) : State := { s with opDone := performed }

/-- An update, with its report. -/
theorem State.updateOnce_performs (s : State) :
    Performs (doUpdateEvents s) (doUpdateFlags s) ((doUpdateCore s).reported !dropped s) s s.updateOnce := by
  obtain ⟨run, performed⟩ := State.doUpdate_performs s
  have reported := run.trans (Performs.silent (t := s.doUpdate.1.reported s.doUpdate.2) rfl)
  refine reported.cast (List.append_nil _) BitVec.or_zero ?_
  rw [← run.core, performed]
  rfl

/-- An update that is not dropped. -/
theorem State.updateOnce_performed {s : State} (kept : dropped s = false) :
    Performs (updateEvents s) (if !s.initialized then 0x100#12 else 0#12)
      ((s.core.powered !s.cfg.powerOffAfterUpdate).reported true) s s.updateOnce := by
  have run := State.updateOnce_performs s
  unfold doUpdateEvents doUpdateFlags doUpdateCore at run
  rw [kept] at run
  exact run

theorem updateEvents_send (s : State) : bytesOf (updateEvents s) ≠ [] := by
  refine bytesOf_ne_nil_of_cmd (x := 0xFF#8) ?_
  rw [(updateEvents_profile s).1]
  simp

/-- Settles O35: with an idle panel the update is not dropped, and its events are its script, which has at most 15 samples. -/
theorem updateEvents_holds : Obligations.UpdateEvents := by
  intro s closed idle
  have kept : dropped s.beginOp = false := by
    have sample : s.beginOp.sampleAt 0 = false := idle 0 (by decide)
    rw [dropped, sample, Bool.and_false]
  have run := State.updateOnce_performed kept
  have meaning := exec_update closed
  generalize s.beginOp.updateOnce = u at run meaning
  obtain ⟨-, sampled, few, -⟩ := updateEvents_profile s
  have within : samplesIn (updateEvents s) ≤ 15 := by split at few <;> omega
  obtain ⟨trace, drawn, status, last, word⟩ := run.idle_answerDone (samplesIdle_mono idle within) rfl rfl sampled
  refine ⟨_, meaning, run.engineFrame_answerDone rfl, run.linesAtRest_answerDone rfl (updateEvents_send s), trace,
    run.panelState_answerDone, status.trans ?_, last, drawn, run.closed closed, rfl, word, rfl⟩
  cases ready : s.initialized <;> simp [ready, State.beginOp]

/-- Settles O36: whatever the panel answers after the drop check, the update runs to its end. -/
theorem updateCompletesWhateverThePanel : Obligations.UpdateCompletesWhateverThePanel := by
  intro s closed idleCheck
  have kept : dropped s.beginOp = false := by
    cases sync : s.cfg.syncMode with
    | true => exact congrArg (!· && _) sync
    | false =>
      have sample : s.beginOp.sampleAt 0 = false := idleCheck sync
      rw [dropped, sample, Bool.and_false]
  have run := State.updateOnce_performed kept
  have meaning := exec_update closed
  generalize s.beginOp.updateOnce = u at run meaning
  have own : (if !s.beginOp.initialized then 0x100#12 else 0#12) &&& ~~~0x330#12 = 0#12 := by split <;> rfl
  exact ⟨_, meaning, run.engineFrame_answerDone rfl, run.linesAtRest_answerDone rfl (updateEvents_send s),
    run.flagsWithin_answerDone own rfl, run.panelState_answerDone, run.closed closed,
    run.rspWord_answerDone rfl rfl, rfl⟩

end Sys2Proof.Machine

/-! ### Proof about UPDATE_PF below the threshold: no part of an update reads or writes the count (42_engine.md R226, R228) -/

namespace Sys2Proof.Machine

open Sys2Proof

/-- The state with another count. -/
def State.counted (c : BitVec 8) (s : State) : State := { s with count := c }

/-- A part of an operation neither reads nor writes the count. -/
def CountBlind (f : State → State) : Prop := ∀ c s, f (s.counted c) = (f s).counted c

theorem CountBlind.comp {f g : State → State} (hf : CountBlind f) (hg : CountBlind g) : CountBlind (g ∘ f) := fun c s => by
  rw [Function.comp_apply, Function.comp_apply, hf, hg]

/-- A part under a condition that does not read the count. -/
theorem CountBlind.doIf {g : State → Bool} {f : State → State} (hg : ∀ c s, g (State.counted c s) = g s) (hf : CountBlind f) :
    CountBlind fun s => s.doIf (g s) f := fun c s => by
  dsimp only
  rw [hg]
  cases g s with
  | true => exact hf c s
  | false => rfl

theorem countBlind_raiseIf {g : State → Bool} (hg : ∀ c s, g (State.counted c s) = g s) (f : Flag) :
    CountBlind fun s => s.raiseIf (g s) f := CountBlind.doIf hg (f := State.raise f) fun _ _ => rfl

theorem countBlind_txn {g : State → List WireByte} (hg : ∀ c s, g (State.counted c s) = g s) :
    CountBlind fun s => s.txn (g s) := fun c s => by
  dsimp only
  rw [hg, State.txn_eq, State.txn_eq]
  rfl

theorem countBlind_poll : CountBlind State.poll := fun c s => by
  rw [State.poll_eq, State.poll_eq]
  rfl

/-- The polls of a busy wait are the panel's and the draw index's alone. -/
theorem countBlind_waitBusy : CountBlind State.waitBusy := fun c s => by
  rcases Nat.lt_or_ge (busyRun s.panel maxPolls s.drawIx) maxPolls with completes | capped
  · rw [State.waitBusy_completes s completes, State.waitBusy_completes (s.counted c) completes]
    rfl
  · have allBusy := Nat.le_antisymm (busyRun_le s.panel maxPolls s.drawIx) capped
    rw [State.waitBusy_timesOut s allBusy, State.waitBusy_timesOut (s.counted c) allBusy]
    rfl

theorem countBlind_setAddresses : CountBlind State.setAddresses :=
  (countBlind_txn (g := fun s => ramAreaBytes 0#8 (lastXByte s.cfg) 0#16 (lastRow s.cfg)) fun _ _ => rfl).comp
    (countBlind_txn (g := fun _ => ramPointerBytes 0#8 0#16) fun _ _ => rfl)

/-- Both power sequences, after their flag. -/
theorem countBlind_power {g : State → List WireByte} (hg : ∀ c s, g (State.counted c s) = g s) (on : Bool) :
    CountBlind fun s => ((s.txn (g s)).powered on).doIf (s.txn (g s)).cfg.powerSeqWait State.waitBusy :=
  ((countBlind_txn hg).comp (g := State.powered on) fun _ _ => rfl).comp
    (CountBlind.doIf (g := fun s => s.cfg.powerSeqWait) (fun _ _ => rfl) countBlind_waitBusy)

theorem countBlind_powerOnSeq : CountBlind State.powerOnSeq :=
  (countBlind_raiseIf (g := State.powerOn) (fun _ _ => rfl) .errPowerState).comp
    (countBlind_power (g := fun _ => powerBytes ctrlPowerOn) (fun _ _ => rfl) true)

theorem State.raiseIf_cfg (c : Bool) (f : Flag) (s : State) : (s.raiseIf c f).cfg = s.cfg := by cases c <;> rfl

theorem countBlind_powerOffSeq : CountBlind State.powerOffSeq := by
  have blind := (countBlind_raiseIf (g := fun s => !s.powerOn) (fun _ _ => rfl) .errPowerState).comp
    (countBlind_power (g := fun s => powerBytes (paramPowerOffCtrl s.cfg)) (fun _ _ => rfl) false)
  intro c s
  have same := blind c s
  simp only [Function.comp_apply, State.raiseIf_cfg] at same
  exact same

theorem countBlind_writeDisplayData : CountBlind State.writeDisplayData :=
  countBlind_waitBusy.comp (countBlind_txn (g := fun s => burstBytes s.bufImage) fun _ _ => rfl)

theorem countBlind_transfer : CountBlind State.transfer :=
  (CountBlind.doIf (g := fun s => !s.fullMode) (fun _ _ => rfl) countBlind_setAddresses).comp countBlind_writeDisplayData

theorem countBlind_activate : CountBlind State.activate := fun c s => by
  have full := countBlind_txn (g := fun _ => activationBytes ctrlUpdateFull) (fun _ _ => rfl) c s
  have part := countBlind_txn (g := fun _ => activationBytes ctrlUpdatePart) (fun _ _ => rfl) c s
  have mode : (s.counted c).fullMode = s.fullMode := rfl
  unfold State.activate
  rw [mode]
  cases s.fullMode with
  | true => exact full
  | false => exact part

/-- A part under a condition, with the condition read from the state itself. -/
theorem CountBlind.doIf_apply {g : State → Bool} {f : State → State} (hf : CountBlind f) (hg : ∀ c s, g (State.counted c s) = g s)
    (c : BitVec 8) (s : State) : (s.counted c).doIf (g (s.counted c)) f = (s.doIf (g s) f).counted c := CountBlind.doIf hg hf c s

theorem countBlind_performUpdate : CountBlind State.performUpdate := fun c s => by
  have flagged := countBlind_raiseIf (g := fun s => !s.initialized) (fun _ _ => rfl) .errNotInit c s
  unfold State.performUpdate
  dsimp only at flagged ⊢
  rw [flagged]
  generalize s.raiseIf _ _ = s1
  rw [countBlind_powerOnSeq.doIf_apply (g := fun s => !s.powerOn) fun _ _ => rfl, countBlind_transfer, countBlind_activate]
  generalize State.activate _ = s2
  rw [countBlind_transfer.doIf_apply (g := fun s => !s.fullMode) fun _ _ => rfl]
  generalize s2.doIf _ _ = s3
  rw [countBlind_waitBusy.doIf_apply (g := fun s => s.cfg.syncMode) fun _ _ => rfl]
  generalize s3.doIf _ _ = s4
  exact countBlind_powerOffSeq.doIf_apply (g := fun s => s.cfg.powerOffAfterUpdate) (fun _ _ => rfl) c s4

/-- An update with another count is the update, with that count: dropped or performed. -/
theorem countBlind_updateOnce : CountBlind State.updateOnce := fun c s => by
  unfold State.updateOnce
  cases check : dropped s with
  | true =>
    obtain ⟨sync, busy⟩ : s.cfg.syncMode = false ∧ s.sampleAt 0 = true := by simpa [dropped] using check
    rw [State.doUpdate_dropped s sync busy, State.doUpdate_dropped (s.counted c) sync busy]
    dsimp only
    rw [countBlind_poll]
    rfl
  | false =>
    have sync : (s.counted c).cfg.syncMode = s.cfg.syncMode := rfl
    rw [State.doUpdate_of_not_dropped check, State.doUpdate_of_not_dropped (s := s.counted c) check, sync]
    cases s.cfg.syncMode with
    | true =>
      rw [if_pos rfl, if_pos rfl, countBlind_performUpdate]
      rfl
    | false =>
      rw [if_neg Bool.false_ne_true, if_neg Bool.false_ne_true, countBlind_poll, countBlind_performUpdate]
      rfl

/-! #### UPDATE_PF -/

/-- `UPDATE_PF` outside a transaction. -/
theorem exec_updatePf {s : State} (closed : s.txnOpen = false) :
    exec .updatePf s = .next s.beginOp.updatePartOrFull.answerDone :=
  congrArg Host.Outcome.next (State.unless_of_not_bad closed _ _ s)

/-- Below the threshold `UPDATE_PF` counts and updates (R228). -/
theorem exec_updatePf_below {s : State} (closed : s.txnOpen = false) (below : s.count.toNat + 1 < paramThreshold s.cfg) :
    exec .updatePf s = .next (s.beginOp.updateOnce.counted (s.count + 1#8)).answerDone := by
  have counts : s.beginOp.updatePartOrFull = (s.beginOp.counted (BitVec.ofNat 8 (s.count.toNat + 1))).updateOnce :=
    if_neg (Nat.not_le.mpr below)
  have next : BitVec.ofNat 8 (s.count.toNat + 1) = s.count + 1#8 := by
    apply BitVec.eq_of_toNat_eq
    simp
  rw [exec_updatePf closed, counts, next, countBlind_updateOnce]

/-- Settles O40: the count is written before the update, which neither reads nor writes it. -/
theorem updatePfBelowThreshold : Obligations.UpdatePfBelowThreshold := fun _ closed below =>
  ⟨_, _, exec_update closed, exec_updatePf_below closed below, rfl⟩

end Sys2Proof.Machine

/-! ### Proofs about the forced full cycle of UPDATE_PF (42_engine.md R228) -/

namespace Sys2Proof.Machine

open Sys2Proof

/-! #### A mode entry that may be the no-op -/

/-- Whether a mode entry is not the no-op (R224). -/
def entersMode (f : Bool) (s : State) : Bool := !(s.fullMode == f && s.initialized)

/-- The events of a mode entry with an idle panel. -/
def modeEvents (f : Bool) (s : State) : List Event := if entersMode f s then entryEvents s.cfg f else []

/-- The flag of a mode entry on a powered panel. -/
def modeFlags (f : Bool) (s : State) : BitVec 12 := if entersMode f s then (if s.powerOn then 0x010#12 else 0#12) else 0#12

/-- What a mode entry leaves of the core. -/
def modeCore (f : Bool) (s : State) : State :=
  if entersMode f s then (s.core.entered f).powered !s.cfg.powerOffAfterModeEntry else s.core

theorem State.enterMode_of_enters {f : Bool} {s : State} (enters : entersMode f s = true) : s.enterMode f = s.enterModeRun f := by
  rw [entersMode, Bool.not_eq_true'] at enters
  rw [State.enterMode, enters, if_neg Bool.false_ne_true]

theorem State.enterMode_performs (f : Bool) (s : State) :
    Performs (modeEvents f s) (modeFlags f s) (modeCore f s) s (s.enterMode f) := by
  unfold modeEvents modeFlags modeCore
  cases enters : entersMode f s with
  | true =>
    rw [State.enterMode_of_enters enters]
    exact State.enterModeRun_performs f s
  | false =>
    rw [entersMode, Bool.not_eq_false'] at enters
    rw [State.enterMode, enters, if_pos rfl]
    exact Performs.silent rfl

theorem modeCore_entered (f : Bool) (s : State) : (modeCore f s).fullMode = f ∧ (modeCore f s).initialized = true := by
  unfold modeCore
  cases enters : entersMode f s with
  | true => exact ⟨rfl, rfl⟩
  | false =>
    rw [entersMode, Bool.not_eq_false', Bool.and_eq_true, beq_iff_eq] at enters
    exact enters

theorem modeCore_frame (f : Bool) (s : State) : (modeCore f s).frame = s.frame := by
  unfold modeCore
  cases entersMode f s <;> rfl

theorem doUpdateCore_frame (s : State) : (doUpdateCore s).frame = s.frame := by
  unfold doUpdateCore
  cases dropped s <;> rfl

theorem doUpdateCore_mode (s : State) : (doUpdateCore s).fullMode = s.fullMode ∧ (doUpdateCore s).initialized = s.initialized := by
  unfold doUpdateCore
  cases dropped s <;> exact ⟨rfl, rfl⟩

/-- The parameters are part of the frame. -/
theorem cfg_of_frame {s t : State} (same : t.frame = s.frame) : t.cfg = s.cfg := congrArg Prod.fst same

/-! #### The two halves of the cycle -/

/-- The state in which the forced cycle's second update begins (R228): after the update in the mode at entry, the entry to full
mode and the busy wait. -/
def State.secondUpdate (s : State) : State := (s.doUpdate.1.enterMode true).waitBusy

/-- The first half's events with an idle panel. -/
def leadEvents (s : State) : List Event := doUpdateEvents s ++ modeEvents true (doUpdateCore s) ++ [.poll false]

/-- The first half's flags. -/
def leadFlags (s : State) : BitVec 12 := doUpdateFlags s ||| modeFlags true (doUpdateCore s)

theorem State.secondUpdate_performs (s : State) :
    Performs (leadEvents s) (leadFlags s) (modeCore true (doUpdateCore s)) s s.secondUpdate := by
  have updated := (State.doUpdate_performs s).1
  unfold State.secondUpdate
  generalize s.doUpdate.1 = u at updated
  have entered := updated.trans (State.enterMode_performs true u)
  rw [updated.field (modeEvents true) fun _ => rfl, updated.field (modeFlags true) fun _ => rfl,
    updated.field (modeCore true) fun _ => rfl] at entered
  have waited := entered.trans (State.waitBusy_performs (u.enterMode true))
  rw [entered.core] at waited
  exact waited.cast rfl BitVec.or_zero rfl

/-- The second half's events with an idle panel. -/
def tailEvents (s : State) : List Event := doUpdateEvents s ++ entryEvents s.cfg false

/-- The second half's flags. -/
def tailFlags (s : State) : BitVec 12 := doUpdateFlags s ||| modeFlags false (doUpdateCore s)

/-- From full mode the entry to partial mode is not the no-op. -/
theorem State.tail_performs {s : State} (full : s.fullMode = true) :
    Performs (tailEvents s) (tailFlags s) (((doUpdateCore s).core.entered false).powered !s.cfg.powerOffAfterModeEntry) s
      (s.doUpdate.1.enterMode false) := by
  have updated := (State.doUpdate_performs s).1
  generalize s.doUpdate.1 = u at updated
  have run := updated.trans (State.enterMode_performs false u)
  have enters : entersMode false (doUpdateCore s) = true := by
    rw [entersMode, (doUpdateCore_mode s).1, full]
    rfl
  rw [updated.field (modeEvents false) fun _ => rfl, updated.field (modeFlags false) fun _ => rfl,
    updated.field (modeCore false) fun _ => rfl] at run
  refine run.cast ?script rfl ?core
  case script => rw [modeEvents, enters, if_pos rfl, cfg_of_frame (doUpdateCore_frame s), tailEvents]
  case core => rw [modeCore, enters, if_pos rfl, cfg_of_frame (doUpdateCore_frame s)]

/-- The marks of the forced cycle (R228). -/
def State.cycled (performed : Bool) (s : State) : State := { s with count := 0#8, forced := true, opDone := performed }

/-- What the forced cycle leaves of the core. -/
def forcedCore (s : State) : State :=
  (((doUpdateCore s.secondUpdate).core.entered false).powered !s.cfg.powerOffAfterModeEntry).cycled
    (!dropped s && !dropped s.secondUpdate)

theorem State.secondUpdate_frame (s : State) : s.secondUpdate.frame = s.frame := by
  rw [(State.secondUpdate_performs s).field State.frame fun _ => rfl, modeCore_frame, doUpdateCore_frame]

theorem State.secondUpdate_mode (s : State) : s.secondUpdate.fullMode = true ∧ s.secondUpdate.initialized = true := by
  have run := State.secondUpdate_performs s
  rw [run.fullMode, run.initialized]
  exact modeCore_entered true _

/-- The forced cycle. -/
theorem State.forcedCycle_performs (s : State) : Performs (leadEvents s ++ tailEvents s.secondUpdate)
    (leadFlags s ||| tailFlags s.secondUpdate) (forcedCore s) s s.forcedCycle := by
  have shape : s.forcedCycle = (s.secondUpdate.doUpdate.1.enterMode false).cycled (s.doUpdate.2 && s.secondUpdate.doUpdate.2) := rfl
  have lead := State.secondUpdate_performs s
  have same := cfg_of_frame (State.secondUpdate_frame s)
  rw [shape, (State.doUpdate_performs s).2, (State.doUpdate_performs s.secondUpdate).2]
  have both := lead.trans (State.tail_performs (State.secondUpdate_mode s).1)
  rw [same] at both
  unfold forcedCore
  generalize s.secondUpdate.doUpdate.1.enterMode false = u at both
  have run := both.trans (Performs.silent (t := u.cycled (!dropped s && !dropped s.secondUpdate)) rfl)
  refine run.cast (List.append_nil _) BitVec.or_zero ?core
  exact congrArg (State.cycled _) both.core

/-! #### UPDATE_PF at the threshold -/

theorem exec_updatePf_forced {s : State} (closed : s.txnOpen = false) (due : paramThreshold s.cfg ≤ s.count.toNat + 1) :
    exec .updatePf s = .next s.beginOp.forcedCycle.answerDone := by
  have forced : s.beginOp.updatePartOrFull = s.beginOp.forcedCycle := if_pos due
  rw [exec_updatePf closed, forced]

theorem forcedCore_frame (s : State) : (forcedCore s).frame = s.frame := by
  have kept : (forcedCore s).frame = (doUpdateCore s.secondUpdate).frame := rfl
  rw [kept, doUpdateCore_frame, State.secondUpdate_frame]

theorem doUpdateFlags_within (s : State) : doUpdateFlags s &&& ~~~0x370#12 = 0#12 := by
  unfold doUpdateFlags
  split
  · rfl
  · split <;> rfl

theorem modeFlags_within (f : Bool) (s : State) : modeFlags f s &&& ~~~0x370#12 = 0#12 := by
  unfold modeFlags
  split
  · split <;> rfl
  · rfl

/-- The forced cycle's own flags: those of its two updates and its two mode entries. -/
theorem forcedFlags_within (s w : State) : (leadFlags s ||| tailFlags w) &&& ~~~0x370#12 = 0#12 :=
  or_and_eq_zero (or_and_eq_zero (doUpdateFlags_within s) (modeFlags_within true _))
    (or_and_eq_zero (doUpdateFlags_within w) (modeFlags_within false _))

/-- The forced cycle ends with a command sent, the table's if no other. -/
theorem forcedEvents_send (s w : State) : bytesOf (leadEvents s ++ tailEvents w) ≠ [] := by
  refine bytesOf_ne_nil_of_cmd (x := 0x32#8) ?_
  rw [commandsIn_append, tailEvents, commandsIn_append, (entryEvents_profile w.cfg false).1]
  simp

/-- A forced response: bit 2 is set, and bit 0 tells whether it is done. -/
theorem doneWord_forced (done timedOut : Bool) :
    (doneWord done timedOut true).getLsbD 2 = true ∧ (doneWord done timedOut true).getLsbD 0 = done := by
  cases done <;> cases timedOut <;> decide

theorem dropped_of_sync {s : State} (sync : s.cfg.syncMode = true) : dropped s = false := by
  rw [dropped, sync, Bool.not_true, Bool.false_and]

/-- Settles O41: the cycle's last part is an entry to partial mode that is not the no-op. -/
theorem updatePfForcesFullCycle : Obligations.UpdatePfForcesFullCycle := by
  intro s closed due
  have run := State.forcedCycle_performs s.beginOp
  have meaning := exec_updatePf_forced closed due
  have same := cfg_of_frame (State.secondUpdate_frame s.beginOp)
  have done (sync : s.cfg.syncMode = true) : (forcedCore s.beginOp).opDone = true := by
    have first : dropped s.beginOp = false := dropped_of_sync sync
    have second : dropped s.beginOp.secondUpdate = false := dropped_of_sync ((congrArg Params.syncMode same).trans sync)
    have performed : (forcedCore s.beginOp).opDone = (!dropped s.beginOp && !dropped s.beginOp.secondUpdate) := rfl
    rw [performed, first, second]
    rfl
  generalize s.beginOp.forcedCycle = u at run meaning
  have word : u.answerDone.rspWord = doneWord u.opDone u.opTimeout true :=
    congrArg (doneWord u.opDone u.opTimeout) (run.field State.forced fun _ => rfl)
  have sameDone : u.opDone = (forcedCore s.beginOp).opDone := run.field State.opDone fun _ => rfl
  obtain ⟨forcedBit, doneBit⟩ := doneWord_forced u.opDone u.opTimeout
  refine ⟨_, meaning, run.engineFrame_answerDone (forcedCore_frame _), run.linesAtRest_answerDone (forcedCore_frame _)
    (forcedEvents_send _ _), run.flagsWithin_answerDone (forcedFlags_within _ _) rfl, run.panelState_answerDone,
    run.closed closed, by rw [word, forcedBit], fun sync => ?_, rfl⟩
  rw [word, doneBit, sameDone, done sync]

/-! #### With an idle panel -/

/-- An update reads the parameters, the power, the mode and the buffer. -/
theorem updateEvents_congr {s t : State} (same : t.frame = s.frame) (mode : t.fullMode = s.fullMode) (power : t.powerOn = s.powerOn) :
    updateEvents t = updateEvents s := by
  simp only [State.frame, Prod.mk.injEq] at same
  obtain ⟨cfg, -, -, buf, epoch, -⟩ := same
  have image (i : Nat) : t.readByte i = s.readByte i := by rw [State.readByte, State.readByte, buf, epoch]
  simp only [updateEvents, burstEvents, cfg, mode, power, image]

theorem dropped_of_idle {n : Nat} {s : State} (idle : samplesIdle n s) (sampled : 0 < n) : dropped s = false := by
  rw [dropped, idle 0 sampled, Bool.and_false]

theorem doUpdateEvents_of_performed {s : State} (performed : dropped s = false) : doUpdateEvents s = updateEvents s := by
  rw [doUpdateEvents, performed, if_neg Bool.false_ne_true]

theorem modeEvents_samples (f : Bool) (s : State) : samplesIn (modeEvents f s) ≤ 7 := by
  obtain ⟨-, -, few, -⟩ := entryEvents_profile s.cfg f
  unfold modeEvents
  split
  · exact few.trans (by cases f <;> decide)
  · exact Nat.zero_le 7

theorem doUpdateCore_of_performed {s : State} (performed : dropped s = false) :
    doUpdateCore s = s.core.powered !s.cfg.powerOffAfterUpdate := by
  rw [doUpdateCore, performed, if_neg Bool.false_ne_true]

/-- Whether the forced cycle's entry to full mode is not the no-op. -/
theorem entersMode_full (s : State) : entersMode true s = !(s.fullMode && s.initialized) := by
  unfold entersMode
  cases s.fullMode <;> rfl

/-- The first half of the forced cycle with an idle panel: its events, at most 22 samples, and the power that it leaves. -/
theorem leadEvents_of_performed {s : State} (performed : dropped s = false) :
    leadEvents s = updateEvents s ++ (if !(s.fullMode && s.initialized) then entryEvents s.cfg true else []) ++ [.poll false]
    ∧ samplesIn (leadEvents s) ≤ 22
    ∧ (modeCore true (doUpdateCore s)).powerOn
      = (if !(s.fullMode && s.initialized) then !s.cfg.powerOffAfterModeEntry else !s.cfg.powerOffAfterUpdate) := by
  have core := doUpdateCore_of_performed performed
  have enters : entersMode true (doUpdateCore s) = !(s.fullMode && s.initialized) := by
    rw [core]
    exact entersMode_full s
  have cfg := cfg_of_frame (doUpdateCore_frame s)
  refine ⟨?events, ?samples, ?power⟩
  case events => rw [leadEvents, doUpdateEvents_of_performed performed, modeEvents, enters, cfg]
  case samples =>
    obtain ⟨-, -, few, -⟩ := updateEvents_profile s
    have entry := modeEvents_samples true (doUpdateCore s)
    have wait : samplesIn [.poll false] = 1 := rfl
    rw [leadEvents, samplesIn_append, samplesIn_append, doUpdateEvents_of_performed performed, wait]
    split at few <;> omega
  case power =>
    rw [modeCore, enters, core]
    cases !(s.fullMode && s.initialized) <;> rfl

/-- The second half of the forced cycle with an idle panel: at most 13 samples. -/
theorem tailEvents_of_performed {s : State} (performed : dropped s = false) (full : s.fullMode = true) :
    tailEvents s = updateEvents s ++ entryEvents s.cfg false ∧ samplesIn (tailEvents s) ≤ 13 := by
  have events : tailEvents s = updateEvents s ++ entryEvents s.cfg false := by
    rw [tailEvents, doUpdateEvents_of_performed performed]
  obtain ⟨-, -, update, -⟩ := updateEvents_profile s
  obtain ⟨-, -, entry, -⟩ := entryEvents_profile s.cfg false
  rw [full, if_pos rfl] at update
  rw [if_neg Bool.false_ne_true] at entry
  refine ⟨events, ?_⟩
  rw [events, samplesIn_append]
  omega

/-- Settles O42: with an idle panel neither update is dropped, and the second one's events are those of the panel's new mode and
power. -/
theorem forcedCycleEvents : Obligations.ForcedCycleEvents := by
  intro s closed due idle enters powered
  have performed : dropped s.beginOp = false := dropped_of_idle idle (by decide)
  obtain ⟨leadScript, leadFew, power⟩ := leadEvents_of_performed performed
  have lead := State.secondUpdate_performs s.beginOp
  have run := State.forcedCycle_performs s.beginOp
  have meaning := exec_updatePf_forced closed due
  obtain ⟨full, -⟩ := State.secondUpdate_mode s.beginOp
  have frame := State.secondUpdate_frame s.beginOp
  have isPerformed : (forcedCore s.beginOp).opDone = (!dropped s.beginOp && !dropped s.beginOp.secondUpdate) := rfl
  generalize s.beginOp.secondUpdate = w at lead run full frame isPerformed
  generalize s.beginOp.forcedCycle = u at run meaning
  obtain ⟨-, drawn, -⟩ := lead.idle (samplesIdle_mono idle (leadFew.trans (by decide)))
  have idleAfter : samplesIdle 13 w :=
    samplesIdle_later (samplesIdle_mono idle (by omega)) lead.panel drawn
  have performedAgain : dropped w = false := dropped_of_idle idleAfter (by decide)
  obtain ⟨tailScript, tailFew⟩ := tailEvents_of_performed performedAgain full
  have few : samplesIn (leadEvents s.beginOp ++ tailEvents w) ≤ 45 := by
    rw [samplesIn_append]
    omega
  obtain ⟨trace, -, -, inTime, -⟩ := run.idle (samplesIdle_mono idle few)
  refine ⟨_, meaning, ?trace, ?word⟩
  case trace =>
    have second : updateEvents w = updateEvents { s with fullMode := true, powerOn := powered } :=
      updateEvents_congr frame full (lead.powerOn.trans power)
    have first : updateEvents s.beginOp = updateEvents s := updateEvents_congr rfl rfl rfl
    rw [leadScript, tailScript, second, first, cfg_of_frame frame] at trace
    exact trace.trans (by simp only [List.append_assoc]; rfl)
  case word =>
    have done : u.opDone = true := by
      rw [run.field State.opDone fun _ => rfl, isPerformed, performed, performedAgain]
      rfl
    have onTime : u.opTimeout = false := inTime
    have forced : u.forced = true := run.field State.forced fun _ => rfl
    have word : u.answerDone.rspWord = doneWord u.opDone u.opTimeout u.forced := rfl
    obtain ⟨-, -, -, -, complete⟩ := doneWord_words
    rw [word, done, onTime, forced, complete]

end Sys2Proof.Machine

/-! ### Proofs about the RAM window and the waveform tables (42_engine.md R234, R235) -/

namespace Sys2Proof.Machine

open Sys2Proof

/-! #### The RAM window (R235) -/

/-- A refused operation sends nothing. -/
theorem newEvents_refuse (f : Flag) (s : State) : newEvents s (s.refuse f) = [] := by
  rw [State.refuse_eq_respond]
  exact List.drop_length

/-- The new events of a run that begins with an operation and ends with its response. -/
theorem Performs.newEvents_answerDone {script : List Event} {raised : BitVec 12} {core s u : State}
    (run : Performs script raised core s.beginOp u) : Stretches script (newEvents s u.answerDone) := by
  obtain ⟨es, trace, stretched⟩ := run.events
  have added : u.answerDone.trace = s.trace ++ es := trace
  rwa [newEvents, added, List.drop_left]

/-- The commands of an engine operation, refused or not, are those of its script. -/
theorem cmd_mem_newEvents_unless {script : List Event} {raised : BitVec 12} {core s : State} {body : State → State} {bad : Bool}
    {f : Flag} {x : Byte} (run : Performs script raised core s.beginOp (body s.beginOp))
    (sent : .cmd x ∈ newEvents s (s.unless bad f fun t => (body t).answerDone)) : x ∈ commandsIn script := by
  cases bad with
  | true => exact absurd (newEvents_refuse f s ▸ sent) List.not_mem_nil
  | false => exact mem_commandsIn.mpr ((run.newEvents_answerDone.cmd_mem x).mp sent)

/-- A script without the four window commands programs no window. -/
theorem isWindowCommand_eq_false {es : List Event} {cmds : List Byte} (within : ∀ x, .cmd x ∈ es → x ∈ cmds)
    (noWindow : ∀ x ∈ cmds, x ∉ [0x44#8, 0x45#8, 0x4E#8, 0x4F#8]) : ∀ e ∈ es, isWindowCommand e = false := by
  intro e sent
  cases e with
  | cmd x =>
    have other := noWindow x (within x sent)
    simpa [isWindowCommand, and_assoc] using other
  | _ => rfl

theorem entryEvents_partial_keep_window (p : Params) :
    ∀ x ∈ commandsIn (entryEvents p false), x ∉ [0x44#8, 0x45#8, 0x4E#8, 0x4F#8] := by
  rw [(entryEvents_profile p false).1]
  cases p.powerOffAfterModeEntry <;> decide

theorem updateEvents_full_keep_window {s : State} (full : s.fullMode = true) :
    ∀ x ∈ commandsIn (updateEvents s), x ∉ [0x44#8, 0x45#8, 0x4E#8, 0x4F#8] := by
  rw [(updateEvents_profile s).1, full]
  cases s.powerOn <;> cases s.cfg.powerOffAfterUpdate <;> decide

theorem modeEvents_partial_keep_window (s : State) :
    ∀ x ∈ commandsIn (modeEvents false s), x ∉ [0x44#8, 0x45#8, 0x4E#8, 0x4F#8] := by
  unfold modeEvents
  split
  · exact entryEvents_partial_keep_window s.cfg
  · exact fun _ absent => absurd absent List.not_mem_nil

theorem doUpdateEvents_full_keep_window {s : State} (full : s.fullMode = true) :
    ∀ x ∈ commandsIn (doUpdateEvents s), x ∉ [0x44#8, 0x45#8, 0x4E#8, 0x4F#8] := by
  unfold doUpdateEvents
  split
  · exact fun _ absent => absurd absent List.not_mem_nil
  · exact updateEvents_full_keep_window full

/-- Settles O39: neither script has a window command, and a refused, dropped or idempotent operation sends no byte. -/
theorem fullModeKeepsTheWindow : Obligations.FullModeKeepsTheWindow := by
  rintro s t (⟨ran, full⟩ | ran)
  · cases ran
    exact isWindowCommand_eq_false (fun x sent => cmd_mem_newEvents_unless (State.updateOnce_performs s.beginOp) sent)
      (doUpdateEvents_full_keep_window full)
  · cases ran
    exact isWindowCommand_eq_false (fun x sent => cmd_mem_newEvents_unless (State.enterMode_performs false s.beginOp) sent)
      (modeEvents_partial_keep_window s.beginOp)

/-! #### The ghosting policy (R234) -/

/-- The run from one state to another loads no waveform table. -/
def NoLoad (s t : State) : Prop := ∃ es, t.trace = s.trace ++ es ∧ .cmd 0x32#8 ∉ es

theorem NoLoad.trans {s t u : State} (first : NoLoad s t) (second : NoLoad t u) : NoLoad s u := by
  obtain ⟨es, trace, none⟩ := first
  obtain ⟨fs, trace', none'⟩ := second
  refine ⟨es ++ fs, by rw [trace', trace, List.append_assoc], ?_⟩
  rw [List.mem_append]
  exact not_or.mpr ⟨none, none'⟩

theorem NoLoad.of_trace {s t : State} (same : t.trace = s.trace) : NoLoad s t := ⟨[], by rw [same, List.append_nil], List.not_mem_nil⟩

theorem Performs.noLoad {script : List Event} {raised : BitVec 12} {core s t : State} (run : Performs script raised core s t)
    (none : 0x32#8 ∉ commandsIn script) : NoLoad s t := by
  obtain ⟨es, trace, stretched⟩ := run.events
  refine ⟨es, trace, ?_⟩
  rwa [stretched.cmd_mem, ← mem_commandsIn]

/-- The run from one state to another loads the table of one mode, once. -/
def LoadsOnce (f : Bool) (p : Params) (s t : State) : Prop :=
  ∃ pre post, t.trace = s.trace ++ (pre ++ lutEvents p f ++ post) ∧ .cmd 0x32#8 ∉ pre ∧ .cmd 0x32#8 ∉ post

theorem State.doUpdate_noLoad (s : State) : NoLoad s s.doUpdate.1 := by
  refine (State.doUpdate_performs s).1.noLoad ?_
  unfold doUpdateEvents
  split
  · exact List.not_mem_nil
  · exact fun load => updateEvents_loads_no_lut s (mem_commandsIn.mp load)

/-- A LUT load is the table's transaction. -/
theorem State.writeLut_loads (f : Bool) (s : State) : LoadsOnce f s.cfg s (s.writeLut f) := by
  refine ⟨[.csOn (s.sampleAt 0)], [.csOff], ?_, by simp, by simp⟩
  rw [State.writeLut, State.txn_eq, lutBytes, List.map_cons, List.map_map]
  rfl

theorem LoadsOnce.between {f : Bool} {p : Params} {s t u v : State} (before : NoLoad s t) (load : LoadsOnce f p t u)
    (after : NoLoad u v) : LoadsOnce f p s v := by
  obtain ⟨es, trace, none⟩ := before
  obtain ⟨pre, post, trace', nonePre, nonePost⟩ := load
  obtain ⟨fs, trace'', none''⟩ := after
  refine ⟨es ++ pre, post ++ fs, by simp only [trace'', trace', trace, List.append_assoc], ?_, ?_⟩
  · rw [List.mem_append]
    exact not_or.mpr ⟨none, nonePre⟩
  · rw [List.mem_append]
    exact not_or.mpr ⟨nonePost, none''⟩

/-- A mode entry that is not the no-op loads the table of its mode, once (R224). -/
theorem State.enterModeRun_loads (f : Bool) (s : State) : LoadsOnce f s.cfg s (s.enterModeRun f) := by
  rw [State.enterModeRun_eq]
  unfold State.entrySequence
  have window := Performs.doIf_kept f (State.setAddresses_performs (s.entered f))
  have cfg : ((s.entered f).doIf f State.setAddresses).cfg = s.cfg := window.cfg
  have noWindowLoad : 0x32#8 ∉ commandsIn (if f then windowEvents (s.entered f).cfg else []) := by
    cases f with
    | true => exact (windowEvents_profile s.cfg).1 ▸ (by decide)
    | false => exact List.not_mem_nil
  have before : NoLoad s ((s.entered f).doIf f State.setAddresses) :=
    (NoLoad.of_trace (t := s.entered f) rfl).trans (window.noLoad noWindowLoad)
  have load := State.writeLut_loads f ((s.entered f).doIf f State.setAddresses)
  rw [cfg] at load
  dsimp only
  generalize ((s.entered f).doIf f State.setAddresses).writeLut f = t at load
  have on := State.powerOnSeq_performs t
  have off := Performs.doIf t.powerOnSeq.cfg.powerOffAfterModeEntry (State.powerOffSeq_performs t.powerOnSeq)
  have onCommands : commandsIn (powerOnEvents t.cfg) = [0x22#8, 0x20#8] := (powerOnEvents_profile t.cfg).1
  have onNone : 0x32#8 ∉ commandsIn (powerOnEvents t.cfg) := by
    rw [onCommands]
    decide
  have offNone : 0x32#8 ∉ commandsIn (if t.powerOnSeq.cfg.powerOffAfterModeEntry then powerOffEvents t.powerOnSeq.cfg else []) := by
    rw [(powerOffPolicy_profile _ _).1]
    split <;> decide
  exact LoadsOnce.between before load ((on.noLoad onNone).trans (off.noLoad offNone))

/-- A state that a run of `UPDATE_PF` reaches below the threshold: in partial mode, with its count. -/
structure Counting (p : Params) (k : Nat) (s : State) : Prop where
  cfg : s.cfg = p
  closed : s.txnOpen = false
  mode : s.fullMode = false
  initialized : s.initialized = true
  count : s.count.toNat = k

/-- `UPDATE_PF` below the threshold counts up and loads no table. -/
theorem Counting.updatePf_below {p : Params} {k : Nat} {s : State} (ready : Counting p k s) (below : k + 1 < paramThreshold p) :
    ∃ t, exec .updatePf s = .next t ∧ Counting p (k + 1) t ∧ NoLoad s t := by
  have bounded := paramThreshold_le p
  have fits : s.count.toNat + 1 < paramThreshold s.cfg := by rw [ready.count, ready.cfg]; exact below
  have meaning := exec_updatePf_below ready.closed fits
  have run := State.updateOnce_performs s.beginOp
  have none := (State.doUpdate_noLoad s.beginOp).trans (NoLoad.of_trace (t := s.beginOp.updateOnce) rfl)
  obtain ⟨mode, initialized⟩ := doUpdateCore_mode s.beginOp
  generalize s.beginOp.updateOnce = u at run none meaning
  refine ⟨_, meaning, ⟨?cfg, run.closed ready.closed, ?mode, ?initialized, ?count⟩,
    (NoLoad.of_trace rfl).trans (none.trans (NoLoad.of_trace rfl))⟩
  case cfg => exact (run.cfg.trans (cfg_of_frame (doUpdateCore_frame s.beginOp))).trans ready.cfg
  case mode => exact (run.fullMode.trans mode).trans ready.mode
  case initialized => exact (run.initialized.trans initialized).trans ready.initialized
  case count =>
    change (s.count + 1#8).toNat = k + 1
    rw [BitVec.toNat_add, ready.count]
    exact Nat.mod_eq_of_lt (show k + 1 < 2 ^ 8 by omega)

theorem State.enterMode_loads {f : Bool} {s : State} (enters : entersMode f s = true) : LoadsOnce f s.cfg s (s.enterMode f) := by
  rw [State.enterMode_of_enters enters]
  exact State.enterModeRun_loads f s

theorem entersMode_of_other {f : Bool} {s : State} (other : s.fullMode = !f) : entersMode f s = true := by
  rw [entersMode, other]
  cases f <;> rfl

/-- An update and then the entry to the other mode load the table of that mode, once. -/
theorem State.doUpdate_enterMode_loads {f : Bool} {s : State} (other : s.fullMode = !f) :
    LoadsOnce f s.cfg s (s.doUpdate.1.enterMode f) := by
  have updated := (State.doUpdate_performs s).1
  have none := State.doUpdate_noLoad s
  generalize s.doUpdate.1 = u at updated none
  have load := State.enterMode_loads (entersMode_of_other ((updated.fullMode.trans (doUpdateCore_mode s).1).trans other))
  rw [updated.cfg.trans (cfg_of_frame (doUpdateCore_frame s))] at load
  exact load.between none (NoLoad.of_trace rfl)

/-- The forced cycle from partial mode loads the full table in its first half and the partial one in its second (R228). -/
theorem State.forcedCycle_loads {s : State} (mode : s.fullMode = false) :
    LoadsOnce true s.cfg s s.secondUpdate ∧ LoadsOnce false s.cfg s.secondUpdate s.forcedCycle := by
  have shape : s.forcedCycle = (s.secondUpdate.doUpdate.1.enterMode false).cycled (s.doUpdate.2 && s.secondUpdate.doUpdate.2) := rfl
  have entered := State.doUpdate_enterMode_loads (f := true) mode
  have waited := (State.waitBusy_performs (s.doUpdate.1.enterMode true)).noLoad List.not_mem_nil
  have tail := State.doUpdate_enterMode_loads (f := false) (State.secondUpdate_mode s).1
  rw [cfg_of_frame (State.secondUpdate_frame s)] at tail
  rw [shape]
  generalize s.secondUpdate.doUpdate.1.enterMode false = u at tail
  exact ⟨entered.between (NoLoad.of_trace rfl) waited, tail.between (NoLoad.of_trace rfl) (NoLoad.of_trace rfl)⟩

/-- `UPDATE_PF` at the threshold, from partial mode. -/
theorem Counting.updatePf_forced {p : Params} {k : Nat} {s : State} (ready : Counting p k s) (due : paramThreshold p ≤ k + 1) :
    ∃ t u, exec .updatePf s = .next t ∧ Counting p 0 t ∧ LoadsOnce true p s u ∧ LoadsOnce false p u t := by
  have reached : paramThreshold s.cfg ≤ s.count.toNat + 1 := by rw [ready.count, ready.cfg]; exact due
  have meaning := exec_updatePf_forced ready.closed reached
  have sameCfg : s.beginOp.cfg = p := ready.cfg
  obtain ⟨lead, tail⟩ := State.forcedCycle_loads (s := s.beginOp) ready.mode
  have run := State.forcedCycle_performs s.beginOp
  have cfg := cfg_of_frame (forcedCore_frame s.beginOp)
  have initialized : (forcedCore s.beginOp).initialized = true := rfl
  have mode : (forcedCore s.beginOp).fullMode = false := rfl
  have count : (forcedCore s.beginOp).count = 0#8 := rfl
  rw [sameCfg] at lead tail
  generalize s.beginOp.forcedCycle = u at run tail meaning
  have counting : Counting p 0 u.answerDone :=
    ⟨(run.cfg.trans cfg).trans ready.cfg, run.closed ready.closed, run.fullMode.trans mode, run.initialized.trans initialized,
      congrArg BitVec.toNat ((run.field State.count fun _ => rfl).trans count)⟩
  exact ⟨_, _, meaning, counting, lead.between (NoLoad.of_trace (s := s) rfl) (NoLoad.of_trace rfl),
    tail.between (NoLoad.of_trace rfl) (NoLoad.of_trace rfl)⟩

theorem execAll_append (is js : List Instr) (s : State) : execAll (is ++ js) s = (execAll is s).bind (execAll js) := by
  induction is generalizing s with
  | nil => rfl
  | cons i is ih =>
    obtain ⟨t, ran⟩ := exec_next i s
    rw [List.cons_append, execAll_cons_of_next ran, execAll_cons_of_next ran, ih]

/-- One more operation after a run. -/
theorem execAll_replicate_succ {i : Instr} {k : Nat} {s t u : State} (run : execAll (List.replicate k i) s = some t)
    (ran : exec i t = .next u) : execAll (List.replicate (k + 1) i) s = some u := by
  rw [List.replicate_succ', execAll_append, run, Option.bind_some, execAll_cons_of_next ran, execAll]

/-- Operations 0 to `THRESHOLD - 1` of a run count up (R234). -/
theorem Counting.run_below {p : Params} {s : State} (ready : Counting p 0 s) (k : Nat) (below : k < paramThreshold p) :
    ∃ t, execAll (List.replicate k .updatePf) s = some t ∧ Counting p k t ∧ NoLoad s t := by
  induction k with
  | zero => exact ⟨s, rfl, ready, NoLoad.of_trace rfl⟩
  | succ k ih =>
    obtain ⟨t, run, counting, none⟩ := ih (Nat.lt_of_succ_lt below)
    obtain ⟨u, ran, counting', none'⟩ := counting.updatePf_below below
    exact ⟨u, execAll_replicate_succ run ran, counting', none.trans none'⟩

theorem NoLoad.count_newEvents {s t : State} (none : NoLoad s t) : (newEvents s t).count (.cmd 0x32#8) = 0 := by
  obtain ⟨es, trace, absent⟩ := none
  rw [newEvents, trace, List.drop_left]
  exact List.count_eq_zero_of_not_mem absent

theorem one_le_paramThreshold (p : Params) : 1 ≤ paramThreshold p := by
  unfold paramThreshold clampTo
  omega

/-- Settles O43: the count goes up by one per operation, and the last operation is the forced cycle, whose two mode entries are the
only loads. -/
theorem ghostingPolicyCycle : Obligations.GhostingPolicyCycle := by
  intro s closed mode initialized count
  have ready : Counting s.cfg 0 s := ⟨rfl, closed, mode, initialized, congrArg BitVec.toNat count⟩
  refine ⟨fun k below => ?counts, ?cycle⟩
  case counts =>
    obtain ⟨t, run, counting, none⟩ := ready.run_below k below
    exact ⟨t, run, counting.closed, counting.mode, counting.initialized, counting.count, none.count_newEvents⟩
  case cycle =>
    have positive := one_le_paramThreshold s.cfg
    obtain ⟨t, run, counting, none⟩ := ready.run_below (paramThreshold s.cfg - 1) (by omega)
    obtain ⟨u, m, ran, counting', full, part⟩ := counting.updatePf_forced (by omega)
    have all := execAll_replicate_succ run ran
    rw [Nat.sub_add_cancel positive] at all
    obtain ⟨pre, mid, trace, nonePre, noneMid⟩ := LoadsOnce.between none full (NoLoad.of_trace rfl)
    obtain ⟨mid', post, trace', noneMid', nonePost⟩ := part
    refine ⟨u, pre, mid ++ mid', post, all, counting'.closed, counting'.mode, counting'.initialized,
      BitVec.eq_of_toNat_eq counting'.count, ?events, ?loads⟩
    case events => rw [newEvents, trace', trace, List.append_assoc, List.drop_left]; simp only [List.append_assoc]
    case loads =>
      refine List.count_eq_zero_of_not_mem ?_
      simp only [List.mem_append, not_or]
      exact ⟨⟨nonePre, noneMid, noneMid'⟩, nonePost⟩

end Sys2Proof.Machine

/-! ### Proofs about every instruction: its flags, its commands, its polls and its delays (60_exceptions.md R302, R323; R120) -/

namespace Sys2Proof.Machine

open Sys2Proof

/-! #### What a part of an instruction adds -/

/-- From one state to another flags are only set, and the events added send commands of one kind only and have at most so many polls
and milliseconds of delay. -/
structure Adds (allowed : Byte → Prop) (polls waits : Nat) (s t : State) : Prop where
  status : ∃ m, t.status = s.status ||| m
  events : ∃ es, t.trace = s.trace ++ es ∧ (∀ x ∈ commandsIn es, allowed x) ∧ pollsIn es ≤ polls ∧ waitsIn es ≤ waits

section Parts

variable {allowed : Byte → Prop} {polls waits : Nat}

theorem Adds.trans {polls' waits' : Nat} {s t u : State} (first : Adds allowed polls waits s t)
    (second : Adds allowed polls' waits' t u) : Adds allowed (polls + polls') (waits + waits') s u := by
  obtain ⟨⟨m, status⟩, es, trace, sent, few, short⟩ := first
  obtain ⟨⟨m', status'⟩, es', trace', sent', few', short'⟩ := second
  refine ⟨⟨m ||| m', by rw [status', status, BitVec.or_assoc]⟩, es ++ es', by rw [trace', trace, List.append_assoc], ?_, ?_, ?_⟩
  · intro x command
    rw [commandsIn_append, List.mem_append] at command
    exact command.elim (sent x) (sent' x)
  · rw [pollsIn_append]
    exact Nat.add_le_add few few'
  · rw [waitsIn_append]
    exact Nat.add_le_add short short'

theorem Adds.mono {polls' waits' : Nat} {s t : State} (part : Adds allowed polls waits s t) (morePolls : polls ≤ polls')
    (moreWaits : waits ≤ waits') : Adds allowed polls' waits' s t := by
  obtain ⟨status, es, trace, sent, few, short⟩ := part
  exact ⟨status, es, trace, sent, few.trans morePolls, short.trans moreWaits⟩

/-- A part that leaves the flags and the trace. -/
theorem Adds.of_same {s t : State} (status : t.status = s.status) (trace : t.trace = s.trace) : Adds allowed polls waits s t :=
  ⟨⟨0#12, by rw [status, BitVec.or_zero]⟩, [], by rw [trace, List.append_nil], fun _ absent => absurd absent List.not_mem_nil,
    Nat.zero_le _, Nat.zero_le _⟩

/-- The flags and the trace are all that is added to. -/
theorem Adds.congr_right {s t u : State} (part : Adds allowed polls waits s t) (status : u.status = t.status)
    (trace : u.trace = t.trace) : Adds allowed polls waits s u := by
  obtain ⟨flags, events⟩ := part
  rw [← status] at flags
  rw [← trace] at events
  exact ⟨flags, events⟩

/-- A raised flag. -/
theorem Adds.raise (f : Flag) (s : State) : Adds allowed polls waits s (s.raise f) :=
  ⟨⟨flagMask f, rfl⟩, [], by simp, fun _ absent => absurd absent List.not_mem_nil, Nat.zero_le _, Nat.zero_le _⟩

theorem Adds.refuse (f : Flag) (s : State) : Adds allowed polls waits s (s.refuse f) := by
  rw [State.refuse_eq_respond]
  exact (Adds.raise f s).congr_right rfl rfl

/-- The start and the response of an operation add nothing. -/
theorem Adds.operation {s u : State} (body : Adds allowed polls waits s.beginOp u) (w : Word) :
    Adds allowed polls waits s (u.answer w) := by
  have begun : Adds allowed polls waits s u := ⟨body.status, body.events⟩
  exact begun.congr_right rfl rfl

/-- An operation with a refusal check. -/
theorem Adds.unless {bad : Bool} {f : Flag} {body : State → State} {word : State → Word} {s : State}
    (part : Adds allowed polls waits s.beginOp (body s.beginOp)) :
    Adds allowed polls waits s (s.unless bad f fun t => (body t).answer (word t)) := by
  cases bad with
  | true => exact Adds.refuse f s
  | false => exact part.operation _

/-- A run of the engine: the commands of its script, and 400 polls and 2000 ms for each of its polls. -/
theorem Performs.adds {script : List Event} {raised : BitVec 12} {core s t : State} (run : Performs script raised core s t)
    (known : ∀ x ∈ commandsIn script, allowed x) (few : pollsIn script ≤ 14) : Adds allowed (14 * 400) (14 * 2000) s t := by
  obtain ⟨m, status, -⟩ := run.flags
  obtain ⟨es, trace, stretched⟩ := run.events
  have polls := stretched.polls
  have waits := stretched.waits
  refine ⟨⟨raised ||| m, by rw [status, BitVec.or_assoc]⟩, es, trace, fun x sent => known x ?_, by omega, by omega⟩
  rw [mem_commandsIn] at sent ⊢
  exact (stretched.cmd_mem x).mp sent

/-! #### The framer's parts -/

/-- Bytes on the wires. -/
theorem bytes_adds {bs : List WireByte} (known : ∀ x, .cmd x ∈ bs → allowed x) :
    (∀ x ∈ commandsIn (bs.map wireEvent), allowed x) ∧ pollsIn (bs.map wireEvent) = 0 ∧ waitsIn (bs.map wireEvent) = 0 := by
  obtain ⟨-, polls, waits⟩ := bytes_counts bs
  refine ⟨fun x sent => known x ?_, polls, waits⟩
  obtain ⟨b, member, event⟩ := List.mem_map.mp (mem_commandsIn.mp sent)
  cases b <;> cases event
  exact member

/-- A transaction. -/
theorem Adds.txn {bs : List WireByte} (known : ∀ x, .cmd x ∈ bs → allowed x) (s : State) : Adds allowed polls waits s (s.txn bs) := by
  obtain ⟨commands, noPoll, noWait⟩ := bytes_adds known
  obtain ⟨sameCommands, -, samePolls⟩ := txnEvents_profile (s.sampleAt 0) (bs.map wireEvent)
  obtain ⟨-, -, sameWaits⟩ := txnEvents_counts (s.sampleAt 0) (bs.map wireEvent)
  rw [State.txn_eq]
  refine ⟨⟨if s.sampleAt 0 then flagMask .hazCmdWhileBusy else 0#12, ?_⟩, txnEvents (s.sampleAt 0) (bs.map wireEvent), rfl, ?_, ?_, ?_⟩
  · cases s.sampleAt 0 <;> simp
  · rwa [sameCommands]
  · rw [samePolls, noPoll]
    exact Nat.zero_le _
  · rw [sameWaits, noWait]
    exact Nat.zero_le _

theorem Adds.shift {w : WireByte} (known : ∀ x, w = .cmd x → allowed x) (s : State) : Adds allowed polls waits s (s.shift w) := by
  obtain ⟨commands, noPoll, noWait⟩ := bytes_adds (bs := [w]) (allowed := allowed) fun x member =>
    known x (List.mem_singleton.mp member).symm
  rw [State.shift_eq]
  exact ⟨⟨0#12, by simp⟩, [wireEvent w], rfl, commands, noPoll ▸ Nat.zero_le _, noWait ▸ Nat.zero_le _⟩

theorem Adds.txnBegin (s : State) : Adds allowed polls waits s s.txnBegin := by
  rw [State.txnBegin_eq]
  refine ⟨⟨if s.sampleAt 0 then flagMask .hazCmdWhileBusy else 0#12, ?_⟩, [.csOn (s.sampleAt 0)], rfl, by simp [commandsIn],
    Nat.zero_le _, Nat.zero_le _⟩
  cases s.sampleAt 0 <;> simp

theorem Adds.txnEnd (s : State) : Adds allowed polls waits s s.txnEnd :=
  ⟨⟨0#12, by simp⟩, [.csOff], by simp, by simp [commandsIn], Nat.zero_le _, Nat.zero_le _⟩

theorem Adds.busConfig (f : Word) (s : State) : Adds allowed polls waits s (s.busConfig f) := by
  rw [State.busConfig_eq]
  refine ⟨⟨if s.txnOpen then flagMask .errTxnAbandoned else 0#12, ?_⟩, [.cfg f, .idle], rfl, by simp [commandsIn], Nat.zero_le _,
    Nat.zero_le _⟩
  cases s.txnOpen <;> simp

/-- The panel hard reset: two delays of 40 ms (R150). -/
theorem Adds.resetSeq (s : State) : Adds allowed polls 80 s s.resetSeq := by
  rw [State.resetSeq_eq]
  exact ⟨⟨0#12, by simp⟩, [.rst false, .delay resetMs, .rst true, .delay resetMs], by simp, by simp [commandsIn], Nat.zero_le _,
    Nat.le_refl 80⟩

end Parts

/-! #### The commands of the engine's operations -/

/-- The commands of R117 are known. -/
theorem knownCommand_of_mem {p : Params} {x : Byte}
    (command : x ∈ [0x20#8, 0x22#8, 0x24#8, 0x32#8, 0x44#8, 0x45#8, 0x4E#8, 0x4F#8, 0xFF#8]) : knownCommand p x = true := by
  rw [knownCommand, List.contains_iff_mem.mpr command, Bool.true_or]

/-- An engine operation's script: commands of R117 only, and at most 14 polls. -/
structure Bounded (n : Nat) (script : List Event) : Prop where
  commands : ∀ x ∈ commandsIn script, x ∈ [0x20#8, 0x22#8, 0x24#8, 0x32#8, 0x44#8, 0x45#8, 0x4E#8, 0x4F#8, 0xFF#8]
  polls : pollsIn script ≤ n

theorem Bounded.append {m n : Nat} {a b : List Event} (first : Bounded m a) (second : Bounded n b) : Bounded (m + n) (a ++ b) where
  commands x command := by
    rw [commandsIn_append, List.mem_append] at command
    exact command.elim (first.commands x) (second.commands x)
  polls := by
    rw [pollsIn_append]
    exact Nat.add_le_add first.polls second.polls

theorem Bounded.mono {m n : Nat} {a : List Event} (script : Bounded m a) (more : m ≤ n) : Bounded n a :=
  ⟨script.commands, script.polls.trans more⟩

theorem Bounded.nil {n : Nat} : Bounded n [] := ⟨fun _ absent => absurd absent List.not_mem_nil, Nat.zero_le n⟩

theorem Bounded.poll : Bounded 1 [.poll false] := ⟨fun _ absent => absurd absent List.not_mem_nil, Nat.le_refl 1⟩

theorem Bounded.entryEvents (p : Params) (f : Bool) : Bounded 2 (entryEvents p f) := by
  obtain ⟨commands, -, -, polls⟩ := entryEvents_profile p f
  refine ⟨?_, polls⟩
  rw [commands]
  cases f <;> cases p.powerOffAfterModeEntry <;> decide

theorem Bounded.updateEvents (s : State) : Bounded (if s.fullMode then 4 else 5) (updateEvents s) := by
  obtain ⟨commands, -, -, polls⟩ := updateEvents_profile s
  refine ⟨?_, polls⟩
  rw [commands]
  cases s.powerOn <;> cases s.fullMode <;> cases s.cfg.powerOffAfterUpdate <;> decide

theorem Bounded.doUpdateEvents (s : State) : Bounded (if s.fullMode then 4 else 5) (doUpdateEvents s) := by
  unfold Machine.doUpdateEvents
  cases dropped s with
  | true => exact Bounded.poll.mono (by cases s.fullMode <;> decide)
  | false => exact Bounded.updateEvents s

theorem Bounded.modeEvents (f : Bool) (s : State) : Bounded 2 (modeEvents f s) := by
  unfold Machine.modeEvents
  split
  · exact Bounded.entryEvents s.cfg f
  · exact Bounded.nil

/-- An update in any mode. -/
theorem Bounded.doUpdateEvents_five (s : State) : Bounded 5 (Machine.doUpdateEvents s) :=
  (Bounded.doUpdateEvents s).mono (by split <;> decide)

/-- The forced cycle: 5 + 2 + 1 polls in its first half, 4 + 2 in its second. -/
theorem Bounded.forcedEvents (s : State) : Bounded 14 (leadEvents s ++ tailEvents s.secondUpdate) := by
  have second := Bounded.doUpdateEvents s.secondUpdate
  rw [(State.secondUpdate_mode s).1, if_pos rfl] at second
  exact (((Bounded.doUpdateEvents_five s).append (Bounded.modeEvents true _)).append Bounded.poll).append
    (second.append (Bounded.entryEvents _ false))

/-- A run with a bounded script. -/
theorem Performs.adds_of_bounded {allowed : Byte → Prop} {script : List Event} {raised : BitVec 12} {core s t : State} {p : Params}
    {n : Nat} (run : Performs script raised core s t) (bounded : Bounded n script) (few : n ≤ 14)
    (known : ∀ x, knownCommand p x = true → allowed x) : Adds allowed (14 * 400) (14 * 2000) s t :=
  run.adds (fun x command => known x (knownCommand_of_mem (bounded.commands x command))) (bounded.polls.trans few)

/-- The configuration block's commands are known (R119). -/
theorem knownCommand_of_config {p : Params} {x : Byte} (command : .cmd x ∈ p.configBlock.flatMap configEntryBytes) :
    knownCommand p x = true := by
  obtain ⟨entry, member, byte⟩ := List.mem_flatMap.mp command
  have first : x = entry.1 := by simpa [configEntryBytes] using byte
  have known : (p.configBlock.map Prod.fst).contains x = true :=
    List.contains_iff_mem.mpr (List.mem_map.mpr ⟨entry, member, first.symm⟩)
  rw [knownCommand, known, Bool.or_true]

/-! #### Every instruction -/

/-- The commands that an instruction may send: the known ones, and those of `WCMD` and `WCMD_T`, which send their operand. -/
def MaySend (i : Instr) (p : Params) (x : Byte) : Prop := knownCommand p x = true ∨ i = .wcmd x ∨ i = .wcmdT x

/-- `UPDATE_PF` counts and updates, or runs the forced cycle. -/
theorem State.updatePartOrFull_adds {allowed : Byte → Prop} {s : State} (known : ∀ x, knownCommand s.cfg x = true → allowed x) :
    Adds allowed (14 * 400) (14 * 2000) s s.updatePartOrFull := by
  unfold State.updatePartOrFull
  dsimp only
  split
  · exact (State.forcedCycle_performs s).adds_of_bounded (Bounded.forcedEvents s) (Nat.le_refl 14) known
  · have counted : Adds allowed 0 0 s (s.counted (BitVec.ofNat 8 (s.count.toNat + 1))) := Adds.of_same rfl rfl
    have updated := (State.updateOnce_performs (s.counted (BitVec.ofNat 8 (s.count.toNat + 1)))).adds_of_bounded
      (Bounded.doUpdateEvents_five _) (by decide) known
    exact (counted.trans updated).mono (by decide) (by decide)

/-- `INIT` before a restore: 80 ms of delays. -/
theorem State.initBus_adds {allowed : Byte → Prop} {s : State} (known : ∀ x, knownCommand s.cfg x = true → allowed x) :
    Adds allowed 0 80 s s.initBus := by
  have cfg : (s.busConfig s.spiHz).resetSeq.cfg = s.cfg := by simp
  have configured : Adds allowed 0 0 s (s.busConfig s.spiHz) := Adds.busConfig s.spiHz s
  have reset : Adds allowed 0 80 (s.busConfig s.spiHz) (s.busConfig s.spiHz).resetSeq := Adds.resetSeq _
  have block : Adds allowed 0 0 (s.busConfig s.spiHz).resetSeq s.initBus :=
    Adds.txn (fun x command => known x (cfg ▸ knownCommand_of_config command)) _
  exact (configured.trans reset).trans block

/-- A restore may raise its flag. -/
theorem State.restore_adds {allowed : Byte → Prop} (snap : Word) (s : State) : Adds allowed 0 0 s (s.restore snap) := by
  unfold State.restore
  dsimp only
  cases decide (paramThreshold s.cfg < (snapCount snap).toNat) with
  | true => exact (Adds.raise .errRestore s).congr_right rfl rfl
  | false => exact Adds.of_same rfl rfl

/-- A wire command sends its byte or reports that none is open. -/
theorem State.wireCommand_adds {allowed : Byte → Prop} {b : Byte} (known : allowed b) (s : State) :
    Adds allowed 0 0 s (s.wireCommand b) := by
  unfold State.wireCommand
  split
  · have sent : Adds allowed 0 0 s.beginOp (s.beginOp.shift (.cmd b)) := Adds.shift (fun x byte => by cases byte; exact known) _
    exact Adds.congr_right ⟨sent.status, sent.events⟩ rfl rfl
  · exact Adds.raise .errNoTxn s

/-- The wire commands are commands of R117. -/
theorem knownCommand_of_wireCommand {i : Instr} {b : Byte} {p : Params} (wire : wireCommandByte i = some b) : knownCommand p b = true := by
  refine knownCommand_of_mem ?_
  cases i <;> cases wire <;> decide

/-- What a host operation adds: the reset of the panel is the longest delay outside the engine, 80 ms. -/
theorem exec_hostOp_adds {i : Instr} {s t : State} (host : i.isHostOp = true) (sticky : ∀ m, i ≠ .clearStatus m)
    (ran : exec i s = .next t) : Adds (MaySend i s.cfg) (14 * 400) (14 * 2000) s t := by
  have known (x : Byte) (command : knownCommand s.beginOp.cfg x = true) : MaySend i s.cfg x := .inl command
  cases i
  case wireActivation | wireUpdateControl | wirePixelData | wireWriteLut | wireSetRamX | wireSetRamY | wireSetRamXCounter
      | wireSetRamYCounter | wireNopTerminator => cases host
  case clearStatus m => exact absurd rfl (sticky m)
  case busReset =>
    cases ran
    exact ((Adds.resetSeq s.beginOp).mono (Nat.zero_le _) (by decide)).operation _
  case busInit f =>
    cases ran
    have configured : Adds (MaySend (.busInit f) s.cfg) 0 0 s.beginOp (s.beginOp.busConfig f) := Adds.busConfig f _
    have reset : Adds (MaySend (.busInit f) s.cfg) 0 80 (s.beginOp.busConfig f) (s.beginOp.busConfig f).resetSeq := Adds.resetSeq _
    exact Adds.unless ((configured.trans reset).mono (Nat.zero_le _) (by decide))
  case txnStart =>
    cases ran
    exact Adds.unless (Adds.txnBegin _)
  case txnEnd =>
    cases ran
    exact Adds.unless (Adds.txnEnd _)
  case wcmd b =>
    cases ran
    exact Adds.unless (Adds.shift (fun x byte => by cases byte; exact .inr (.inl rfl)) _)
  case wdata b =>
    cases ran
    exact Adds.unless (Adds.shift nofun _)
  case wcmdT b =>
    cases ran
    exact Adds.unless (Adds.txn (fun x byte => by cases List.mem_singleton.mp byte; exact .inr (.inr rfl)) _)
  case wdataT b =>
    cases ran
    exact Adds.unless (Adds.txn (fun x byte => by cases List.mem_singleton.mp byte) _)
  case init =>
    cases ran
    exact ((State.initBus_adds known).mono (Nat.zero_le _) (by decide)).operation _
  case initS snap =>
    cases ran
    have restored := (State.initBus_adds known).trans (State.restore_adds snap s.beginOp.initBus)
    exact (restored.mono (Nat.zero_le _) (by decide)).operation _
  case enterFull =>
    cases ran
    exact Adds.unless ((State.enterMode_performs true s.beginOp).adds_of_bounded (Bounded.modeEvents _ _) (by decide) known)
  case enterPartial =>
    cases ran
    exact Adds.unless ((State.enterMode_performs false s.beginOp).adds_of_bounded (Bounded.modeEvents _ _) (by decide) known)
  case update =>
    cases ran
    exact Adds.unless ((State.updateOnce_performs s.beginOp).adds_of_bounded (Bounded.doUpdateEvents_five _) (by decide) known)
  case updatePf =>
    cases ran
    exact Adds.unless (State.updatePartOrFull_adds known)
  case isBusy =>
    cases ran
    exact ((State.poll_performs s.beginOp).adds_of_bounded Bounded.poll (by decide) known).operation _
  case waitBusy =>
    cases ran
    have waited := (State.waitBusy_performs s.beginOp).adds_of_bounded Bounded.poll (by decide) known
    exact (waited.congr_right rfl rfl).operation _
  case drawPixel x y c =>
    cases ran
    refine (Adds.of_same ?_ ?_).operation _
    all_goals cases inRange s.cfg s.rotation x y <;> rfl
  case fill c =>
    cases ran
    exact (Adds.of_same (s := s.beginOp) (t := s.beginOp.fillBuf (fillByte c)) rfl rfl).operation _
  case setRotation r =>
    cases ran
    refine Adds.operation ?_ _
    split
    · exact Adds.raise .errRotation s.beginOp
    · exact Adds.of_same rfl rfl
  case getPixel x y =>
    cases ran
    exact (Adds.of_same rfl rfl).operation _
  case readReg n =>
    cases ran
    split
    · exact (Adds.of_same rfl rfl).operation _
    · exact Adds.refuse .errIllegalOp s

/-- What every instruction but the status clear adds. -/
theorem exec_adds {i : Instr} {s t : State} (sticky : ∀ m, i ≠ .clearStatus m) (ran : exec i s = .next t) :
    Adds (MaySend i s.cfg) (14 * 400) (14 * 2000) s t := by
  cases host : i.isHostOp with
  | true => exact exec_hostOp_adds host sticky ran
  | false =>
    obtain ⟨b, wire⟩ := wireCommandByte_of_not_isHostOp host
    rw [exec_wireCommand wire] at ran
    cases ran
    exact (State.wireCommand_adds (.inl (knownCommand_of_wireCommand wire)) s).mono (Nat.zero_le _) (Nat.zero_le _)

/-- The status clear sends nothing (R281). -/
theorem exec_clearStatus_trace {m : BitVec 12} {s t : State} (ran : exec (.clearStatus m) s = .next t) : t.trace = s.trace := by
  cases ran
  rfl

/-- The events that an instruction adds. -/
theorem exec_newEvents {i : Instr} {s t : State} (ran : exec i s = .next t) :
    (∀ x ∈ commandsIn (newEvents s t), MaySend i s.cfg x) ∧ pollsIn (newEvents s t) ≤ 14 * 400
      ∧ waitsIn (newEvents s t) ≤ 14 * 2000 := by
  have part : ∃ es, t.trace = s.trace ++ es ∧ (∀ x ∈ commandsIn es, MaySend i s.cfg x) ∧ pollsIn es ≤ 14 * 400
      ∧ waitsIn es ≤ 14 * 2000 := by
    by_cases clears : ∃ m, i = .clearStatus m
    · obtain ⟨m, rfl⟩ := clears
      exact ⟨[], by rw [exec_clearStatus_trace ran, List.append_nil], nofun, Nat.zero_le _, Nat.zero_le _⟩
    · exact (exec_adds (not_exists.mp clears) ran).events
  obtain ⟨es, trace, bounds⟩ := part
  rwa [newEvents, trace, List.drop_left]

/-- Settles O22: every other instruction only sets flags. -/
theorem flagsAreSticky : Obligations.FlagsAreSticky := by
  intro i s t sticky ran
  obtain ⟨m, status⟩ := (exec_adds sticky ran).status
  rw [status, BitVec.not_or, ← BitVec.and_assoc, BitVec.and_not_self]
  exact BitVec.zero_and

/-- Settles O25: the two exceptions are the instructions that send their operand. -/
theorem onlyKnownCommandsAreSent : Obligations.OnlyKnownCommandsAreSent := by
  intro i s t notRaw notRawT ran x sent
  rcases (exec_newEvents ran).1 x (mem_commandsIn.mpr sent) with known | raw | rawT
  · exact known
  · exact absurd raw (notRaw x)
  · exact absurd rawT (notRawT x)

/-- Settles O46: the forced cycle has the most polls, at most 14. -/
theorem operationsAreBounded : Obligations.OperationsAreBounded := fun _ _ _ ran => (exec_newEvents ran).2

end Sys2Proof.Machine
